-- ==== Sys2Proof/Word.lean ====
section
/-! DEFINITION. The word and byte types of the unit (R6). Every operand, response and table entry is one
`Word`; the four fields of a command word are `Byte`s. -/

namespace Sys2Proof

/-- A 32-bit word, bit 31 most significant (R6). -/
abbrev Word := BitVec 32

/-- An 8-bit field of a command word (R71): `opcode`, `sel`, `voice` or `rsv`. -/
abbrev Byte := BitVec 8

end Sys2Proof
end

