-- ==== Sys2Proof/Syntax.lean ====
section
/-! DEFINITION. The packet a host presents (R70) and the instructions: one constructor of `Instr` per row of
spec/opcode_table.json, carrying exactly the `cmd` fields and operand words that its format uses (R72). An operand
word that a format does not use is ignored by the unit, so no constructor carries one. -/

namespace Sys2Proof

/-- A command packet: the command word and its three operand words (R70). -/
structure Packet where
  cmd : Word
  a   : Word
  b   : Word
  c   : Word
deriving DecidableEq, Repr

/-- The commands of the unit, in the order of the opcode table (R74, R75). -/
inductive Instr where
  -- group 0, the table bank and the status word
  | init
  | stat
  -- group 1, FixedPointCore
  | add (a b : Word)
  | sub (a b : Word)
  | mul (a b : Word)
  | div (a b : Word)
  | lerp (a b c : Word)
  | itox (a : Word)
  | xtoi (a : Word)
  | ftox (a : Word)
  | xtof (a : Word)
  -- group 2, FastMathFacade
  | frac (a : Word)
  | fabs (a : Word)
  | sin (a : Word)
  | div7 (a : Word)
  | div183 (a : Word)
  | freq (a : Word)
  | floor (a : Word)
  | muli (a b : Word)
  | divi (a b : Word)
  | min (a b : Word)
  | max (a b : Word)
  | clamp (a b c : Word)
  -- group 3, WaveformSynthesizer: GEN with each instrument (the voice field matters to NOISE alone, R76)
  | genTriangle (voice : Byte) (a : Word)
  | genTiltedSaw (voice : Byte) (a : Word)
  | genSaw (voice : Byte) (a : Word)
  | genSquare (voice : Byte) (a : Word)
  | genPulse (voice : Byte) (a : Word)
  | genOrgan (voice : Byte) (a : Word)
  | genNoise (voice : Byte) (a b : Word)
  | genPhaser (voice : Byte) (a : Word)
  -- GEN with an unknown instrument (R179): the five rows that cover `sel` 8 to 255
  | genUnk8 (sel voice : Byte)
  | genUnk16 (sel voice : Byte)
  | genUnk32 (sel voice : Byte)
  | genUnk64 (sel voice : Byte)
  | genUnk128 (sel voice : Byte)
  | vstart (voice : Byte)
  | vstop (voice : Byte)
deriving DecidableEq, Repr

end Sys2Proof
end

