-- ==== Sys2Proof/WellFormed.lean ====
section
/-! DEFINITION. Which terms of `Instr` stand for a command word: the five rows of an unknown instrument each hold
a `sel` of their own range (spec/opcode_table.json, R75); every other field may hold any value. -/

namespace Sys2Proof

/-- `lo ≤ sel ≤ hi`, as unsigned numbers. -/
def selBetween (lo hi : Nat) (sel : Byte) : Bool :=
  decide (lo ≤ sel.toNat) && decide (sel.toNat ≤ hi)

/-- The instruction is one the decoder can read from a command word. -/
def Instr.wellFormed : Instr → Bool
  | .genUnk8 sel _ => selBetween 8 15 sel
  | .genUnk16 sel _ => selBetween 16 31 sel
  | .genUnk32 sel _ => selBetween 32 63 sel
  | .genUnk64 sel _ => selBetween 64 127 sel
  | .genUnk128 sel _ => selBetween 128 255 sel
  | .init | .stat => true
  | .add _ _ | .sub _ _ | .mul _ _ | .div _ _ | .lerp _ _ _ => true
  | .itox _ | .xtoi _ | .ftox _ | .xtof _ => true
  | .frac _ | .fabs _ | .sin _ | .div7 _ | .div183 _ | .freq _ | .floor _ => true
  | .muli _ _ | .divi _ _ | .min _ _ | .max _ _ | .clamp _ _ _ => true
  | .genTriangle _ _ | .genTiltedSaw _ _ | .genSaw _ _ | .genSquare _ _ => true
  | .genPulse _ _ | .genOrgan _ _ | .genNoise _ _ _ | .genPhaser _ _ => true
  | .vstart _ | .vstop _ => true

end Sys2Proof
end

