-- ==== Sys2Proof/Decode.lean ====
section
/-! DEFINITION. The command word (R71), the decoder (R78), total and rejecting by name (R77), and after it the encoder.
The unit has no byte order (R51): a packet is four whole words. -/

namespace Sys2Proof

/-- `cmd[7:0]`, the operation (R71). -/
def cmdOpcode (cmd : Word) : Byte := cmd.extractLsb' 0 8

/-- `cmd[15:8]`, the instrument of GEN (R71). -/
def cmdSel (cmd : Word) : Byte := cmd.extractLsb' 8 8

/-- `cmd[23:16]`, the noise voice of GEN, VSTART and VSTOP (R71). -/
def cmdVoice (cmd : Word) : Byte := cmd.extractLsb' 16 8

/-- `cmd[31:24]`, reserved (R71). -/
def cmdRsv (cmd : Word) : Byte := cmd.extractLsb' 24 8

/-- The 26 operations (R74). -/
inductive Op where
  | INIT | STAT
  | ADD | SUB | MUL | DIV | LERP | ITOX | XTOI | FTOX | XTOF
  | FRAC | FABS | SIN | DIV7 | DIV183 | FREQ | FLOOR | MULI | DIVI | MIN | MAX | CLAMP
  | GEN | VSTART | VSTOP
deriving DecidableEq, Repr

/-- The command formats (R72). -/
inductive Format where
  | Z | U | B | T | G | V
deriving DecidableEq, Repr

/-- The opcode of each operation (R74). -/
def Op.code : Op → Byte
  | .INIT => 0x00 | .STAT => 0x01
  | .ADD => 0x10 | .SUB => 0x11 | .MUL => 0x12 | .DIV => 0x13 | .LERP => 0x14
  | .ITOX => 0x15 | .XTOI => 0x16 | .FTOX => 0x17 | .XTOF => 0x18
  | .FRAC => 0x20 | .FABS => 0x21 | .SIN => 0x22 | .DIV7 => 0x23 | .DIV183 => 0x24 | .FREQ => 0x25
  | .FLOOR => 0x26 | .MULI => 0x27 | .DIVI => 0x28 | .MIN => 0x29 | .MAX => 0x2A | .CLAMP => 0x2B
  | .GEN => 0x30 | .VSTART => 0x31 | .VSTOP => 0x32

/-- The format of each operation (R72, R74). -/
def Op.format : Op → Format
  | .INIT | .STAT => .Z
  | .ADD | .SUB | .MUL | .DIV | .MULI | .DIVI | .MIN | .MAX => .B
  | .LERP | .CLAMP => .T
  | .ITOX | .XTOI | .FTOX | .XTOF | .FRAC | .FABS | .SIN | .DIV7 | .DIV183 | .FREQ | .FLOOR => .U
  | .GEN => .G
  | .VSTART | .VSTOP => .V

/-- Every operation, in opcode order (R74). -/
def Op.all : List Op :=
  [.INIT, .STAT, .ADD, .SUB, .MUL, .DIV, .LERP, .ITOX, .XTOI, .FTOX, .XTOF, .FRAC, .FABS,
    .SIN, .DIV7, .DIV183, .FREQ, .FLOOR, .MULI, .DIVI, .MIN, .MAX, .CLAMP, .GEN, .VSTART, .VSTOP]

/-- The operation of an opcode, if the opcode is one of the 26 (R74, R78 step 2). -/
def opOfCode (code : Byte) : Option Op :=
  Op.all.find? fun op => op.code == code

/-- Why a command word is reserved, the cases (a) to (d) of R77. -/
inductive Reserved where
  /-- (a) `rsv ≠ 0`. -/
  | rsvNotZero
  /-- (b) `opcode` is none of the 26. -/
  | unknownOpcode
  /-- (c) `sel ≠ 0` in an operation that is not GEN. -/
  | selNotZero
  /-- (d) `voice ≠ 0` in an operation that is not GEN, VSTART or VSTOP. -/
  | voiceNotZero
deriving DecidableEq, Repr

/-- GEN with its instrument (R75). -/
def genOf (sel voice : Byte) (a b : Word) : Instr :=
  if sel = 0 then .genTriangle voice a
  else if sel = 1 then .genTiltedSaw voice a
  else if sel = 2 then .genSaw voice a
  else if sel = 3 then .genSquare voice a
  else if sel = 4 then .genPulse voice a
  else if sel = 5 then .genOrgan voice a
  else if sel = 6 then .genNoise voice a b
  else if sel = 7 then .genPhaser voice a
  else if sel.toNat < 16 then .genUnk8 sel voice
  else if sel.toNat < 32 then .genUnk16 sel voice
  else if sel.toNat < 64 then .genUnk32 sel voice
  else if sel.toNat < 128 then .genUnk64 sel voice
  else .genUnk128 sel voice

/-- The instruction of an operation, with the fields and operand words its format uses (R72, R78 step 5). -/
def instrOf (op : Op) (p : Packet) : Instr :=
  match op with
  | .INIT => .init
  | .STAT => .stat
  | .ADD => .add p.a p.b
  | .SUB => .sub p.a p.b
  | .MUL => .mul p.a p.b
  | .DIV => .div p.a p.b
  | .LERP => .lerp p.a p.b p.c
  | .ITOX => .itox p.a
  | .XTOI => .xtoi p.a
  | .FTOX => .ftox p.a
  | .XTOF => .xtof p.a
  | .FRAC => .frac p.a
  | .FABS => .fabs p.a
  | .SIN => .sin p.a
  | .DIV7 => .div7 p.a
  | .DIV183 => .div183 p.a
  | .FREQ => .freq p.a
  | .FLOOR => .floor p.a
  | .MULI => .muli p.a p.b
  | .DIVI => .divi p.a p.b
  | .MIN => .min p.a p.b
  | .MAX => .max p.a p.b
  | .CLAMP => .clamp p.a p.b p.c
  | .GEN => genOf (cmdSel p.cmd) (cmdVoice p.cmd) p.a p.b
  | .VSTART => .vstart (cmdVoice p.cmd)
  | .VSTOP => .vstop (cmdVoice p.cmd)

/-- Decoding, in the order of R78: total, and it rejects a reserved word by name. -/
def decode (p : Packet) : Except Reserved Instr :=
  if cmdRsv p.cmd ≠ 0 then .error .rsvNotZero
  else
    match opOfCode (cmdOpcode p.cmd) with
    | none => .error .unknownOpcode
    | some op =>
      if op.format ≠ .G ∧ cmdSel p.cmd ≠ 0 then .error .selNotZero
      else if op.format ≠ .G ∧ op.format ≠ .V ∧ cmdVoice p.cmd ≠ 0 then .error .voiceNotZero
      else .ok (instrOf op p)

/-- The packet whose bits are `w` below bit `nbits` and 0 above: the command word is bits 31 to 0, and `a`, `b`, `c`
follow in that order (R70; the numbering is the opcode table's, log entry 10). -/
def packetOfBits (nbits w : Nat) : Packet :=
  let bits := w % 2 ^ nbits
  { cmd := BitVec.ofNat 32 bits
    a := BitVec.ofNat 32 (bits / 2 ^ 32)
    b := BitVec.ofNat 32 (bits / 2 ^ 64)
    c := BitVec.ofNat 32 (bits / 2 ^ 96) }

/-- The instruction the decoder reads from an instruction whose bits are `w`; `none` where it rejects. -/
def decodeTableWord (nbits w : Nat) : Option Instr :=
  match decode (packetOfBits nbits w) with
  | .ok i => some i
  | .error _ => none

/-- The operation of an instruction (R74). -/
def Instr.op : Instr → Op
  | .init => .INIT
  | .stat => .STAT
  | .add _ _ => .ADD
  | .sub _ _ => .SUB
  | .mul _ _ => .MUL
  | .div _ _ => .DIV
  | .lerp _ _ _ => .LERP
  | .itox _ => .ITOX
  | .xtoi _ => .XTOI
  | .ftox _ => .FTOX
  | .xtof _ => .XTOF
  | .frac _ => .FRAC
  | .fabs _ => .FABS
  | .sin _ => .SIN
  | .div7 _ => .DIV7
  | .div183 _ => .DIV183
  | .freq _ => .FREQ
  | .floor _ => .FLOOR
  | .muli _ _ => .MULI
  | .divi _ _ => .DIVI
  | .min _ _ => .MIN
  | .max _ _ => .MAX
  | .clamp _ _ _ => .CLAMP
  | .genTriangle _ _ | .genTiltedSaw _ _ | .genSaw _ _ | .genSquare _ _ => .GEN
  | .genPulse _ _ | .genOrgan _ _ | .genNoise _ _ _ | .genPhaser _ _ => .GEN
  | .genUnk8 _ _ | .genUnk16 _ _ | .genUnk32 _ _ | .genUnk64 _ _ | .genUnk128 _ _ => .GEN
  | .vstart _ => .VSTART
  | .vstop _ => .VSTOP

/-- The `sel` field of an instruction: the instrument for GEN (R75), 0 for every other operation (R71). -/
def Instr.sel : Instr → Byte
  | .genTriangle _ _ => 0
  | .genTiltedSaw _ _ => 1
  | .genSaw _ _ => 2
  | .genSquare _ _ => 3
  | .genPulse _ _ => 4
  | .genOrgan _ _ => 5
  | .genNoise _ _ _ => 6
  | .genPhaser _ _ => 7
  | .genUnk8 sel _ | .genUnk16 sel _ | .genUnk32 sel _ | .genUnk64 sel _ | .genUnk128 sel _ => sel
  | .init | .stat => 0
  | .add _ _ | .sub _ _ | .mul _ _ | .div _ _ | .lerp _ _ _ => 0
  | .itox _ | .xtoi _ | .ftox _ | .xtof _ => 0
  | .frac _ | .fabs _ | .sin _ | .div7 _ | .div183 _ | .freq _ | .floor _ => 0
  | .muli _ _ | .divi _ _ | .min _ _ | .max _ _ | .clamp _ _ _ => 0
  | .vstart _ | .vstop _ => 0

/-- The `voice` field of an instruction: used by GEN, VSTART and VSTOP, 0 for every other operation (R71, R76). -/
def Instr.voice : Instr → Byte
  | .genTriangle v _ | .genTiltedSaw v _ | .genSaw v _ | .genSquare v _ => v
  | .genPulse v _ | .genOrgan v _ | .genNoise v _ _ | .genPhaser v _ => v
  | .genUnk8 _ v | .genUnk16 _ v | .genUnk32 _ v | .genUnk64 _ v | .genUnk128 _ v => v
  | .vstart v | .vstop v => v
  | .init | .stat => 0
  | .add _ _ | .sub _ _ | .mul _ _ | .div _ _ | .lerp _ _ _ => 0
  | .itox _ | .xtoi _ | .ftox _ | .xtof _ => 0
  | .frac _ | .fabs _ | .sin _ | .div7 _ | .div183 _ | .freq _ | .floor _ => 0
  | .muli _ _ | .divi _ _ | .min _ _ | .max _ _ | .clamp _ _ _ => 0

/-- The operand words of an instruction; a word its format does not use is sent as 0 (R72, R80). -/
def Instr.operands : Instr → Word × Word × Word
  | .init | .stat => (0, 0, 0)
  | .add a b | .sub a b | .mul a b | .div a b => (a, b, 0)
  | .muli a b | .divi a b | .min a b | .max a b => (a, b, 0)
  | .lerp a b c | .clamp a b c => (a, b, c)
  | .itox a | .xtoi a | .ftox a | .xtof a => (a, 0, 0)
  | .frac a | .fabs a | .sin a | .div7 a | .div183 a | .freq a | .floor a => (a, 0, 0)
  | .genTriangle _ a | .genTiltedSaw _ a | .genSaw _ a | .genSquare _ a => (a, 0, 0)
  | .genPulse _ a | .genOrgan _ a | .genPhaser _ a => (a, 0, 0)
  | .genNoise _ a b => (a, b, 0)
  | .genUnk8 _ _ | .genUnk16 _ _ | .genUnk32 _ _ | .genUnk64 _ _ | .genUnk128 _ _ => (0, 0, 0)
  | .vstart _ | .vstop _ => (0, 0, 0)

/-- The command word with these fields and `rsv = 0` (R71, R170). -/
def cmdWord (code sel voice : Byte) : Word :=
  voice.setWidth 32 <<< 16 ||| sel.setWidth 32 <<< 8 ||| code.setWidth 32

/-- The packet of an instruction (R70, R71, R74, R75). -/
def encode (i : Instr) : Packet :=
  { cmd := cmdWord i.op.code i.sel i.voice
    a := i.operands.1
    b := i.operands.2.1
    c := i.operands.2.2 }

end Sys2Proof
end

