-- ==== Sys2Proof/Config.lean ====
section
/-! DEFINITION. What an implementation fixes (`NVOICE`) and the values the spec leaves UNSPECIFIED (R12, file 93
U1 to U4), which are opaque constants: nothing can evaluate them or prove a value of them. -/

namespace Sys2Proof.Config

/-- The number of noise voices of the machine `State.reset` describes. DESIGN CHOICE (log entry 1), unsafe:
`NVOICE` is OPEN, 1 to 16, suggested 4 (R5, D23). Only `State.reset` uses this number; every meaning reads
`NVOICE` as the length of the state's own voice file, so a statement about every state covers every `NVOICE`. -/
def nvoice : Nat := 4

/-- The places where a rule writes UNSPECIFIED as a value (file 93, U1 to U4). -/
inductive FreeSite where
  /-- DIV with a zero divisor: the response (R104, U1). -/
  | div
  /-- DIVI with a zero divisor: the response (R150, U2). -/
  | divi
  /-- FTOX of an infinity, a NaN or a float that does not fit: the response (R108, U3). -/
  | ftox
  /-- GEN NOISE with `1 + scale = 0`: the word stored in `V[voice].sample` (R184, U4). -/
  | noiseSample
  /-- GEN NOISE with `1 + scale = 0`: the response (R184, U4). -/
  | noiseResponse
deriving DecidableEq, Repr

/-- The UNSPECIFIED word: "any 32-bit word, chosen afresh at each occurrence, with no other effect" (R12). A free
value (log entry 2), safe: it depends on the site, on a draw number that is new at each occurrence, and on the
two operand words, and it has no body, so no proof can know it or relate two occurrences. -/
opaque freeWord (site : FreeSite) (draw : Nat) (a b : Word) : Word

/-- What the host sees as response of a command cut off by a reset: the command "has no defined response" (R220),
so this is a free value (log entry 3), safe: no response at all, or any word. -/
opaque cutResponse (draw : Nat) (cmd a b c : Word) : Option Word

end Sys2Proof.Config
end

