-- ==== Sys2Proof/Machine/State.lean ====
section
/-! DEFINITION. The machine's state (file 10): everything the spec gives the unit, its command interface, and the one
field the model adds (`draws`). The ROM is a constant of the hardware, not state (R28). -/

namespace Sys2Proof.Machine

/-- One entry of the voice state file (R24). -/
structure Voice where
  /-- 1 while the noise voice exists. -/
  active      : Bool
  /-- The advance operand of the voice's previous NOISE sample, Q16.16. -/
  lastAdvance : Word
  /-- The current filtered noise sample, Q16.16. -/
  sample      : Word
  /-- The previous filtered noise sample, Q16.16. -/
  lastSample  : Word
deriving DecidableEq, Repr

/-- A voice right after reset (R30, R221). -/
def Voice.reset : Voice :=
  { active := false, lastAdvance := 0, sample := 0, lastSample := 0 }

/-- A voice right after VSTART (R186). -/
def Voice.started : Voice :=
  { active := true, lastAdvance := 0, sample := 0, lastSample := 0 }

/-- What the outside world presents to the unit (R70, R220). -/
inductive HostInput where
  /-- The host presents one command packet (R70). -/
  | command (p : Packet)
  /-- Reset (R220): between two commands (`none`), or cutting off the command in progress (`some p`). -/
  | reset (cut : Option Packet)
deriving DecidableEq, Repr

/-- The state of the unit. Plain data. -/
structure State where
  /-- `INIT_DONE` (R23). -/
  initDone : Bool
  /-- The voice state file `V[0 .. NVOICE-1]` (R24); `NVOICE` (R5) is its length. -/
  voices   : List Voice
  /-- The response word `y` of the command just executed (R70); `none` when the last step answered no command. -/
  response : Option Word
  /-- What has been presented and not yet taken, in presentation order (R13; log entry 4). -/
  inbox    : List HostInput
  /-- The model's own: the number of the next UNSPECIFIED draw (R12; log entry 5). -/
  draws    : Nat
deriving DecidableEq, Repr

/-- The unit raises no exception, fault or trap, for any operand, any command word and any state (R200): there is no
fault to name. -/
inductive Fault where
deriving DecidableEq, Repr

/-- Why a step has no meaning. -/
inductive Refusal where
  /-- Raised by an arm of `exec` whose instruction has no meaning yet: no arm does. Safe. -/
  | notModelled (mnemonic : String)
deriving DecidableEq, Repr

/-- The state after reset of a unit with `n` noise voices (R30, R221). -/
def State.resetWith (n : Nat) : State :=
  { initDone := false
    voices := List.replicate n Voice.reset
    response := none
    inbox := []
    draws := 0 }

/-- The machine right after reset (R30, R221), with `Config.nvoice` voices (log entry 1). -/
def State.reset : State := State.resetWith Config.nvoice

end Sys2Proof.Machine
end

