-- ==== Sys2Proof/Machine/Ops.lean ====
section
/-! DEFINITION. The shared operations on the state: answering a command, setting `INIT_DONE`, reading and writing a
voice, drawing an UNSPECIFIED word, taking what the host presents, idling, reset. The unit has no exception to take
and none to return from (R200, R205, R206), no register file and no writable memory (R20, R215), so there is no
shared operation for those. -/

namespace Sys2Proof.Machine

/-- Answer the command with the response word `y` (R70). -/
def State.respond (s : State) (y : Word) : State := { s with response := some y }

/-- `INIT_DONE <- 1` (R23). -/
def State.markInit (s : State) : State := { s with initDone := true }

/-- `V[v]`; `none` when `v ≥ NVOICE`, which selects no voice (R76). -/
def State.voiceAt (s : State) (v : Byte) : Option Voice := s.voices[v.toNat]?

/-- `V[v] <- x`; no effect when `v ≥ NVOICE` (R76). -/
def State.setVoice (s : State) (v : Byte) (x : Voice) : State :=
  { s with voices := s.voices.set v.toNat x }

/-- The UNSPECIFIED word of this occurrence (R12): a free value (log entry 2). -/
def State.freeWord (s : State) (site : Config.FreeSite) (a b : Word) : Word :=
  Config.freeWord site s.draws a b

/-- One UNSPECIFIED word has been drawn: the next occurrence draws afresh (R12; log entry 5). -/
def State.drawn (s : State) : State := { s with draws := s.draws + 1 }

/-- `y <- UNSPECIFIED` (R12, file 93 U1 to U4). -/
def State.respondFree (s : State) (site : Config.FreeSite) (a b : Word) : State :=
  s.drawn.respond (s.freeWord site a b)

/-- A facade operation or GEN with the response `y`: `INIT_DONE <- 1` before anything else (R140, R170). -/
def State.respondInit (s : State) (y : Word) : State := s.markInit.respond y

/-- VSTART on `V[v]`: active, all three words 0; nothing when `v ≥ NVOICE` (R186). -/
def State.startVoice (s : State) (v : Byte) : State := s.setVoice v Voice.started

/-- VSTOP on `V[v]`: `ACTIVE <- 0`, the three words stay; nothing when `v ≥ NVOICE` (R187; log entry 8). -/
def State.stopVoice (s : State) (v : Byte) : State :=
  match s.voiceAt v with
  | none => s
  | some x => s.setVoice v { x with active := false }

/-- A reserved command word: the response is 0 and no state changes (R77). -/
def State.answerReserved (s : State) : State := s.respond 0

/-- Nothing is presented: the unit stays as it is and answers nothing (R13, R220; log entry 4). -/
def State.idle (s : State) : State := { s with response := none }

/-- Reset (R220, R221): every piece of the unit's state takes its reset value; the host's later inputs and the draw
number are not the unit's and stay. A command it cuts off has no defined response (log entry 3). -/
def State.hostReset (s : State) (cut : Option Packet) : State :=
  match cut with
  | none =>
    { State.resetWith s.voices.length with inbox := s.inbox, draws := s.draws }
  | some p =>
    { State.resetWith s.voices.length with
      inbox := s.inbox
      draws := s.draws + 1
      response := Config.cutResponse s.draws p.cmd p.a p.b p.c }

/-- The next input in presentation order, and the state without it (R13). -/
def State.takeInput (s : State) : Option (HostInput × State) :=
  match s.inbox with
  | [] => none
  | x :: rest => some (x, { s with inbox := rest })

/-- The host presents `p` so that it is the next command the unit takes (R70). -/
def State.presentNext (s : State) (p : Packet) : State :=
  { s with inbox := .command p :: s.inbox }

end Sys2Proof.Machine
end

