-- ==== Sys2Proof/Machine/Operands.lean ====
section
/-! DEFINITION. How an operand word is read (R73), the narrowing of results (R8), the integer arithmetic of the rules
(R9) and the named constants (R11). A Q16.16 operand and an integer operand are both read by `S`; a binary32
operand by its three fields. -/

namespace Sys2Proof.Machine

/-- `S(w)`, the signed reading of a word (R7): the raw value of a Q16.16 operand, or a signed integer operand (R73). -/
def S (w : Word) : Int := w.toInt

/-- `wrap32(n)`: the integer in `[-2^31, 2^31 - 1]` congruent to `n` modulo `2^32` (R8). -/
def wrap32 (n : Int) : Int := (n + 2147483648) % 4294967296 - 2147483648

/-- The word a rule writes for the signed integer `wrap32(n)`: the low 32 bits of `n` (R8). -/
def narrow (n : Int) : Word := BitVec.ofInt 32 n

/-- `fdiv(n, d)` for `d > 0`: the floor of `n/d` (R9). -/
def fdiv (n d : Int) : Int := n / d

/-- `sra(n, k)`: the arithmetic right shift, `fdiv(n, 2^k)` (R9). -/
def sra (n : Int) (k : Nat) : Int := fdiv n (2 ^ k)

/-- `tdiv(n, d)` for `d ≠ 0`: `n/d` rounded toward zero (R9). -/
def tdiv (n d : Int) : Int := Int.tdiv n d

/-- The sign bit of a binary32 pattern (R108). -/
def f32Sign (a : Word) : Bool := a.getLsbD 31

/-- The exponent field of a binary32 pattern (R108). -/
def f32Exp (a : Word) : Nat := (a.extractLsb' 23 8).toNat

/-- The fraction field of a binary32 pattern (R108). -/
def f32Frac (a : Word) : Nat := (a.extractLsb' 0 23).toNat

/-- The binary32 pattern with these fields, the exponent and the fraction taken modulo their widths (R109). -/
def f32Pack (sign : Bool) (exp frac : Nat) : Word :=
  BitVec.ofNat 32 ((if sign then 2 ^ 31 else 0) + exp % 2 ^ 8 * 2 ^ 23 + frac % 2 ^ 23)

/-- `n·ONE` for a small integer `n` (R11). -/
def ones (n : Int) : Word := narrow (65536 * n)

/-- 1 (R11). -/
def ONE : Word := 0x00010000
/-- 0.5 (R11). -/
def K_HALF : Word := 0x00008000
/-- 0.25 (R11). -/
def K_QUARTER : Word := 0x00004000
/-- 1/3, truncated (R11). -/
def K_THIRD : Word := 0x00005555
/-- 0.9, truncated (R11). -/
def K_A : Word := 0x0000E666
/-- 0.653, truncated (R11). -/
def K_SAW : Word := 0x0000A72B
/-- 1/128 (R11). -/
def K_INV128 : Word := 0x00000200
/-- The noise time constant `tscale`, truncated (R11). -/
def K_TSCALE : Word := 0x00001CE5
/-- 4/3, truncated (R11). -/
def K_43 : Word := 0x00015555
/-- 1.75 (R11). -/
def K_175 : Word := 0x0001C000
/-- 0.2, truncated (R11). -/
def K_02 : Word := 0x00003333

end Sys2Proof.Machine
end

