-- ==== Sys2Proof/Machine/Rom.lean ====
section
/-! DEFINITION. The table ROM (file 20): six constant banks of raw Q16.16 values, 886 entries, and the one read of
them. The unit has no other memory, nothing writes it, and no rule reads it by address but through `romRead`. -/

namespace Sys2Proof.Machine

/-- `FREQ_ROM`: note frequencies in Hz (R44), 64 entries. -/
def freqRom : List Int :=
  [4286473, 4541360, 4811403, 5097504, 5400617, 5721755, 6061988, 6422453,
    6804352, 7208960, 7637627, 8091784, 8572946, 9082720, 9622807, 10195009,
    10801235, 11443510, 12123977, 12844906, 13608704, 14417920, 15275254, 16183568,
    17145893, 18165440, 19245614, 20390018, 21602471, 22887021, 24247954, 25689812] ++
  [27217408, 28835840, 30550508, 32367136, 34291786, 36330881, 38491228, 40780036,
    43204943, 45774042, 48495908, 51379625, 54434817, 57671680, 61101016, 64734272,
    68583572, 72661763, 76982456, 81560072, 86409886, 91548085, 96991817, 102759251,
    108869634, 115343360, 122202033, 129468544, 137167144, 145323527, 153964913, 163120144]

/-- `SIN_ROM`: one cycle of the sine (R45), 256 entries. -/
def sinRom : List Int :=
  [0, 1608, 3215, 4821, 6423, 8022, 9616, 11204,
    12785, 14359, 15923, 17479, 19024, 20557, 22078, 23586,
    25079, 26557, 28020, 29465, 30893, 32302, 33692, 35061,
    36409, 37736, 39039, 40319, 41575, 42806, 44011, 45189] ++
  [46340, 47464, 48558, 49624, 50660, 51665, 52639, 53581,
    54491, 55368, 56212, 57022, 57797, 58538, 59243, 59913,
    60547, 61144, 61705, 62228, 62714, 63162, 63571, 63943,
    64276, 64571, 64826, 65043, 65220, 65358, 65457, 65516] ++
  [65536, 65516, 65457, 65358, 65220, 65043, 64826, 64571,
    64276, 63943, 63571, 63162, 62714, 62228, 61705, 61144,
    60547, 59913, 59243, 58538, 57797, 57022, 56212, 55368,
    54491, 53581, 52639, 51665, 50660, 49624, 48558, 47464] ++
  [46340, 45189, 44011, 42806, 41575, 40319, 39039, 37736,
    36409, 35061, 33692, 32302, 30893, 29465, 28020, 26557,
    25079, 23586, 22078, 20557, 19024, 17479, 15923, 14359,
    12785, 11204, 9616, 8022, 6423, 4821, 3215, 1608] ++
  [0, -1608, -3215, -4821, -6423, -8022, -9616, -11204,
    -12785, -14359, -15923, -17479, -19024, -20557, -22078, -23586,
    -25079, -26557, -28020, -29465, -30893, -32302, -33692, -35061,
    -36409, -37736, -39039, -40319, -41575, -42806, -44011, -45189] ++
  [-46340, -47464, -48558, -49624, -50660, -51665, -52639, -53581,
    -54491, -55368, -56212, -57022, -57797, -58538, -59243, -59913,
    -60547, -61144, -61705, -62228, -62714, -63162, -63571, -63943,
    -64276, -64571, -64826, -65043, -65220, -65358, -65457, -65516] ++
  [-65536, -65516, -65457, -65358, -65220, -65043, -64826, -64571,
    -64276, -63943, -63571, -63162, -62714, -62228, -61705, -61144,
    -60547, -59913, -59243, -58538, -57797, -57022, -56212, -55368,
    -54491, -53581, -52639, -51665, -50660, -49624, -48558, -47464] ++
  [-46340, -45189, -44011, -42806, -41575, -40319, -39039, -37736,
    -36409, -35061, -33692, -32302, -30893, -29465, -28020, -26557,
    -25079, -23586, -22078, -20557, -19024, -17479, -15923, -14359,
    -12785, -11204, -9616, -8022, -6423, -4821, -3215, -1608]

/-- `FMOD_ROM`: fractional part on the 0.01 grid of `[0, 1]` (R46), 101 entries. -/
def fmodRom : List Int :=
  [0, 655, 1310, 1966, 2621, 3276, 3932, 4587,
    5242, 5898, 6553, 7208, 7864, 8519, 9175, 9830,
    10485, 11141, 11796, 12451, 13107, 13762, 14417, 15073,
    15728, 16384, 17039, 17694, 18350, 19005, 19660, 20316] ++
  [20971, 21626, 22282, 22937, 23592, 24248, 24903, 25559,
    26214, 26869, 27525, 28180, 28835, 29491, 30146, 30801,
    31457, 32112, 32768, 33423, 34078, 34734, 35389, 36044,
    36700, 37355, 38010, 38666, 39321, 39976, 40632, 41287] ++
  [41943, 42598, 43253, 43909, 44564, 45219, 45875, 46530,
    47185, 47841, 48496, 49152, 49807, 50462, 51118, 51773,
    52428, 53084, 53739, 54394, 55050, 55705, 56360, 57016,
    57671, 58327, 58982, 59637, 60293, 60948, 61603, 62259] ++
  [62914, 63569, 64225, 64880, 0]

/-- `ABS_ROM`: absolute value on the 0.01 grid of `[-1, 1]` (R47), 201 entries. -/
def absRom : List Int :=
  [65536, 64880, 64225, 63569, 62914, 62259, 61603, 60948,
    60293, 59637, 58982, 58327, 57671, 57016, 56360, 55705,
    55050, 54394, 53739, 53084, 52428, 51773, 51118, 50462,
    49807, 49152, 48496, 47841, 47185, 46530, 45875, 45219] ++
  [44564, 43909, 43253, 42598, 41943, 41287, 40632, 39976,
    39321, 38666, 38010, 37355, 36700, 36044, 35389, 34734,
    34078, 33423, 32768, 32112, 31457, 30801, 30146, 29491,
    28835, 28180, 27525, 26869, 26214, 25559, 24903, 24248] ++
  [23592, 22937, 22282, 21626, 20971, 20316, 19660, 19005,
    18350, 17694, 17039, 16384, 15728, 15073, 14417, 13762,
    13107, 12451, 11796, 11141, 10485, 9830, 9175, 8519,
    7864, 7208, 6553, 5898, 5242, 4587, 3932, 3276] ++
  [2621, 1966, 1310, 655, 0, 655, 1310, 1966,
    2621, 3276, 3932, 4587, 5242, 5898, 6553, 7208,
    7864, 8519, 9175, 9830, 10485, 11141, 11796, 12451,
    13107, 13762, 14417, 15073, 15728, 16384, 17039, 17694] ++
  [18350, 19005, 19660, 20316, 20971, 21626, 22282, 22937,
    23592, 24248, 24903, 25559, 26214, 26869, 27525, 28180,
    28835, 29491, 30146, 30801, 31457, 32112, 32768, 33423,
    34078, 34734, 35389, 36044, 36700, 37355, 38010, 38666] ++
  [39321, 39976, 40632, 41287, 41943, 42598, 43253, 43909,
    44564, 45219, 45875, 46530, 47185, 47841, 48496, 49152,
    49807, 50462, 51118, 51773, 52428, 53084, 53739, 54394,
    55050, 55705, 56360, 57016, 57671, 58327, 58982, 59637] ++
  [60293, 60948, 61603, 62259, 62914, 63569, 64225, 64880,
    65536]

/-- `DIV7_ROM`: volume levels over 7 (R48), 8 entries. -/
def div7Rom : List Int :=
  [0, 9362, 18724, 28086, 37449, 46811, 56173, 65536]

/-- `DIV183_ROM`: timing divisors over 183 (R49), 256 entries. -/
def div183Rom : List Int :=
  [0, 358, 716, 1074, 1432, 1790, 2148, 2506,
    2864, 3223, 3581, 3939, 4297, 4655, 5013, 5371,
    5729, 6088, 6446, 6804, 7162, 7520, 7878, 8236,
    8594, 8953, 9311, 9669, 10027, 10385, 10743, 11101] ++
  [11459, 11817, 12176, 12534, 12892, 13250, 13608, 13966,
    14324, 14682, 15041, 15399, 15757, 16115, 16473, 16831,
    17189, 17547, 17906, 18264, 18622, 18980, 19338, 19696,
    20054, 20412, 20770, 21129, 21487, 21845, 22203, 22561] ++
  [22919, 23277, 23635, 23994, 24352, 24710, 25068, 25426,
    25784, 26142, 26500, 26859, 27217, 27575, 27933, 28291,
    28649, 29007, 29365, 29723, 30082, 30440, 30798, 31156,
    31514, 31872, 32230, 32588, 32947, 33305, 33663, 34021] ++
  [34379, 34737, 35095, 35453, 35812, 36170, 36528, 36886,
    37244, 37602, 37960, 38318, 38676, 39035, 39393, 39751,
    40109, 40467, 40825, 41183, 41541, 41900, 42258, 42616,
    42974, 43332, 43690, 44048, 44406, 44765, 45123, 45481] ++
  [45839, 46197, 46555, 46913, 47271, 47629, 47988, 48346,
    48704, 49062, 49420, 49778, 50136, 50494, 50853, 51211,
    51569, 51927, 52285, 52643, 53001, 53359, 53718, 54076,
    54434, 54792, 55150, 55508, 55866, 56224, 56582, 56941] ++
  [57299, 57657, 58015, 58373, 58731, 59089, 59447, 59806,
    60164, 60522, 60880, 61238, 61596, 61954, 62312, 62671,
    63029, 63387, 63745, 64103, 64461, 64819, 65177, 65536,
    65894, 66252, 66610, 66968, 67326, 67684, 68042, 68400] ++
  [68759, 69117, 69475, 69833, 70191, 70549, 70907, 71265,
    71624, 71982, 72340, 72698, 73056, 73414, 73772, 74130,
    74489, 74847, 75205, 75563, 75921, 76279, 76637, 76995,
    77353, 77712, 78070, 78428, 78786, 79144, 79502, 79860] ++
  [80218, 80577, 80935, 81293, 81651, 82009, 82367, 82725,
    83083, 83442, 83800, 84158, 84516, 84874, 85232, 85590,
    85948, 86306, 86665, 87023, 87381, 87739, 88097, 88455,
    88813, 89171, 89530, 89888, 90246, 90604, 90962, 91320]

/-- The banks, in the order of their numbers 0 to 5 (R40). -/
inductive Bank where
  | FREQ | SIN | FMOD | ABS | DIV7 | DIV183
deriving DecidableEq, Repr

/-- The entries of a bank (R40). -/
def Bank.entries : Bank → List Int
  | .FREQ => freqRom
  | .SIN => sinRom
  | .FMOD => fmodRom
  | .ABS => absRom
  | .DIV7 => div7Rom
  | .DIV183 => div183Rom

/-- The number of entries of a bank (R40). -/
def Bank.size : Bank → Nat
  | .FREQ => 64
  | .SIN => 256
  | .FMOD => 101
  | .ABS => 201
  | .DIV7 => 8
  | .DIV183 => 256

/-- `clampidx(i, N)`: the index forced into `0 .. N - 1` (R42). -/
def clampidx (i : Int) (n : Nat) : Nat :=
  if i < 0 then 0 else if (n : Int) - 1 < i then n - 1 else i.toNat

/-- `ROM[bank][i]`: the raw value of entry `clampidx(i, N)` (R42). Every integer index names an entry of its own bank
(R52), so the default is never read. -/
def romRead (bank : Bank) (i : Int) : Int :=
  bank.entries.getD (clampidx i bank.size) 0

end Sys2Proof.Machine
end

