-- ==== Sys2Proof/Machine/Facade.lean ====
section
/-! DEFINITION. FastMathFacade (file 42): the response function of each operation and its meaning. Every one sets
`INIT_DONE`, whether or not it reads a table; apart from that bit it is a function of its operands (R140). -/

namespace Sys2Proof.Machine

/-! ### Response functions -/

/-- The 0.01 quantizer: `d/65536 · 100` rounded to the nearest integer, ties upward (R143). -/
def quantIdx (d : Int) : Int := sra (d * 100 + 32768) 16

/-- FRAC (R141): the table on `[0, 1]`, the exact fractional part with the operand's sign outside. -/
def fracVal (a : Word) : Word :=
  let v := S a
  if 0 ≤ v ∧ v ≤ 65536 then narrow (romRead .FMOD (quantIdx v))
  else if 65536 < v then narrow (v % 65536)
  else narrow (-((-v) % 65536))

/-- FABS (R142): the table on `[-1, 1]`, the exact absolute value outside. -/
def fabsVal (a : Word) : Word :=
  let v := S a
  if -65536 ≤ v ∧ v ≤ 65536 then narrow (romRead .ABS (quantIdx (v + 65536)))
  else narrow (v.natAbs : Int)

/-- SIN (R144): index `floor(x·255)`, clamped by the read into the table. -/
def sinVal (a : Word) : Word := narrow (romRead .SIN (sra (S a * 255) 16))

/-- DIV7 (R145): the operand is an integer. -/
def div7Val (a : Word) : Word :=
  let v := S a
  if 0 ≤ v ∧ v ≤ 7 then narrow (romRead .DIV7 v)
  else narrow (tdiv (v * 65536) 7)

/-- DIV183 (R146): the operand is an integer. -/
def div183Val (a : Word) : Word :=
  let s := S a
  if 0 ≤ s ∧ s ≤ 255 then narrow (romRead .DIV183 s)
  else narrow (tdiv (s * 65536) 183)

/-- FREQ (R147): the operand is an integer note key; 0 out of range. -/
def freqVal (a : Word) : Word :=
  let k := S a
  if 0 ≤ k ∧ k ≤ 63 then narrow (romRead .FREQ k)
  else 0

/-- FLOOR (R148). -/
def floorVal (a : Word) : Word := a &&& 0xFFFF0000

/-- MULI (R149): the exact product, narrowed. -/
def muliVal (a n : Word) : Word := narrow (S a * S n)

/-- DIVI with a divisor that is not 0 (R150): rounded toward zero. No rule evaluates it at `n = 0`. -/
def diviVal (a n : Word) : Word := narrow (tdiv (S a) (S n))

/-- MIN (R151), signed. -/
def minVal (a b : Word) : Word := if S a ≤ S b then a else b

/-- MAX (R152), signed. -/
def maxVal (a b : Word) : Word := if S b ≤ S a then a else b

/-- CLAMP (R153): `MIN(MAX(x, lo), hi)`. -/
def clampVal (x lo hi : Word) : Word := minVal (maxVal x lo) hi

/-! ### Meanings -/

/-- FRAC, opcode 0x20 (R141). -/
def execFrac (a : Word) (s : State) : Host.Outcome State Fault Refusal :=
  .next (s.respondInit (fracVal a))

/-- FABS, opcode 0x21 (R142). -/
def execFabs (a : Word) (s : State) : Host.Outcome State Fault Refusal :=
  .next (s.respondInit (fabsVal a))

/-- SIN, opcode 0x22 (R144). -/
def execSin (a : Word) (s : State) : Host.Outcome State Fault Refusal :=
  .next (s.respondInit (sinVal a))

/-- DIV7, opcode 0x23 (R145). -/
def execDiv7 (a : Word) (s : State) : Host.Outcome State Fault Refusal :=
  .next (s.respondInit (div7Val a))

/-- DIV183, opcode 0x24 (R146). -/
def execDiv183 (a : Word) (s : State) : Host.Outcome State Fault Refusal :=
  .next (s.respondInit (div183Val a))

/-- FREQ, opcode 0x25 (R147). -/
def execFreq (a : Word) (s : State) : Host.Outcome State Fault Refusal :=
  .next (s.respondInit (freqVal a))

/-- FLOOR, opcode 0x26 (R148). -/
def execFloor (a : Word) (s : State) : Host.Outcome State Fault Refusal :=
  .next (s.respondInit (floorVal a))

/-- MULI, opcode 0x27 (R149). -/
def execMuli (a b : Word) (s : State) : Host.Outcome State Fault Refusal :=
  .next (s.respondInit (muliVal a b))

/-- DIVI, opcode 0x28 (R150): with a zero divisor the response is UNSPECIFIED and `INIT_DONE` is still set (U2). -/
def execDivi (a b : Word) (s : State) : Host.Outcome State Fault Refusal :=
  if S b = 0 then .next (s.markInit.respondFree .divi a b)
  else .next (s.respondInit (diviVal a b))

/-- MIN, opcode 0x29 (R151). -/
def execMin (a b : Word) (s : State) : Host.Outcome State Fault Refusal :=
  .next (s.respondInit (minVal a b))

/-- MAX, opcode 0x2A (R152). -/
def execMax (a b : Word) (s : State) : Host.Outcome State Fault Refusal :=
  .next (s.respondInit (maxVal a b))

/-- CLAMP, opcode 0x2B (R153). -/
def execClamp (a b c : Word) (s : State) : Host.Outcome State Fault Refusal :=
  .next (s.respondInit (clampVal a b c))

end Sys2Proof.Machine
end

