-- ==== Sys2Proof/Machine/FixedPoint.lean ====
section
/-! DEFINITION. FixedPointCore (file 40): the response function of each operation and its meaning. They read only their
operands and write only the response; none touches `INIT_DONE`, a voice or the ROM (R100). -/

namespace Sys2Proof.Machine

/-! ### Response functions -/

/-- ADD (R101). -/
def addVal (a b : Word) : Word := narrow (S a + S b)

/-- SUB (R102). -/
def subVal (a b : Word) : Word := narrow (S a - S b)

/-- MUL (R103): the floor of the exact product over 65536, narrowed. -/
def mulVal (a b : Word) : Word := narrow (sra (S a * S b) 16)

/-- DIV with a divisor that is not 0 (R104): rounded toward zero, narrowed. No rule evaluates it at `b = 0`. -/
def divVal (a b : Word) : Word := narrow (tdiv (S a * 65536) (S b))

/-- LERP (R105): `a + (b - a)·t` by the unit's own SUB, MUL and ADD. -/
def lerpVal (a b t : Word) : Word := addVal a (mulVal (subVal b a) t)

/-- ITOX (R106). -/
def itoxVal (a : Word) : Word := narrow (S a * 65536)

/-- XTOI (R107): the floor of the value. -/
def xtoiVal (a : Word) : Word := narrow (sra (S a) 16)

/-- The magnitude `trunc(|value| · 65536)` of a normal binary32 number with exponent field `e` and fraction `m` (R108). -/
def ftoxMag (e m : Nat) : Nat :=
  let sig := 2 ^ 23 + m
  let k : Int := (e : Int) - 134
  if 0 ≤ k then sig * 2 ^ k.toNat
  else if -24 < k then sig / 2 ^ (-k).toNat
  else 0

/-- FTOX (R108); `none` where the rule leaves the response UNSPECIFIED. -/
def ftoxVal (a : Word) : Option Word :=
  let e := f32Exp a
  if e = 255 then none
  else if e = 0 then some 0
  else
    let mag := ftoxMag e (f32Frac a)
    if f32Sign a = false ∧ mag ≤ 2147483647 then some (narrow mag)
    else if f32Sign a = true ∧ mag ≤ 2147483648 then some (narrow (-(mag : Int)))
    else none

/-- The greatest `p ≤ k` with `2^p ≤ mag`, or 0 (R109). -/
def highestBitUpTo (mag : Nat) : Nat → Nat
  | 0 => 0
  | k + 1 => if 2 ^ (k + 1) ≤ mag then k + 1 else highestBitUpTo mag k

/-- The 24-bit significand of `mag`, whose highest set bit is `p`, and the position it stands for, rounded to nearest,
ties to even (R109). -/
def xtofRound (mag p : Nat) : Nat × Nat :=
  if p ≤ 23 then (mag * 2 ^ (23 - p), p)
  else
    let sh := p - 23
    let m24 := mag / 2 ^ sh
    let rem := mag % 2 ^ sh
    let half := 2 ^ (sh - 1)
    let up := if half < rem ∨ (rem = half ∧ m24 % 2 = 1) then m24 + 1 else m24
    if up = 2 ^ 24 then (2 ^ 23, p + 1) else (up, p)

/-- XTOF (R109): the binary32 nearest to the value, ties to even. -/
def xtofVal (a : Word) : Word :=
  let n := S a
  if n = 0 then 0
  else
    let mag := n.natAbs
    let r := xtofRound mag (highestBitUpTo mag 31)
    f32Pack (decide (n < 0)) (r.2 + 111) r.1

/-! ### Meanings -/

/-- ADD, opcode 0x10 (R101). -/
def execAdd (a b : Word) (s : State) : Host.Outcome State Fault Refusal :=
  .next (s.respond (addVal a b))

/-- SUB, opcode 0x11 (R102). -/
def execSub (a b : Word) (s : State) : Host.Outcome State Fault Refusal :=
  .next (s.respond (subVal a b))

/-- MUL, opcode 0x12 (R103). -/
def execMul (a b : Word) (s : State) : Host.Outcome State Fault Refusal :=
  .next (s.respond (mulVal a b))

/-- DIV, opcode 0x13 (R104): with a zero divisor the response is UNSPECIFIED and nothing else changes (U1). -/
def execDiv (a b : Word) (s : State) : Host.Outcome State Fault Refusal :=
  if S b = 0 then .next (s.respondFree .div a b)
  else .next (s.respond (divVal a b))

/-- LERP, opcode 0x14 (R105). -/
def execLerp (a b c : Word) (s : State) : Host.Outcome State Fault Refusal :=
  .next (s.respond (lerpVal a b c))

/-- ITOX, opcode 0x15 (R106). -/
def execItox (a : Word) (s : State) : Host.Outcome State Fault Refusal :=
  .next (s.respond (itoxVal a))

/-- XTOI, opcode 0x16 (R107). -/
def execXtoi (a : Word) (s : State) : Host.Outcome State Fault Refusal :=
  .next (s.respond (xtoiVal a))

/-- FTOX, opcode 0x17 (R108): where the float does not fit, the response is UNSPECIFIED (U3). -/
def execFtox (a : Word) (s : State) : Host.Outcome State Fault Refusal :=
  match ftoxVal a with
  | none => .next (s.respondFree .ftox a 0)
  | some y => .next (s.respond y)

/-- XTOF, opcode 0x18 (R109). -/
def execXtof (a : Word) (s : State) : Host.Outcome State Fault Refusal :=
  .next (s.respond (xtofVal a))

end Sys2Proof.Machine
end

