-- ==== Sys2Proof/Machine/Synth.lean ====
section
/-! DEFINITION. WaveformSynthesizer (file 43): GEN for each instrument, VSTART, VSTOP. The formulas are fixed sequences
of the unit's own operations (R180); a nested operation is its response function and sets no state itself (R12, R181). -/

namespace Sys2Proof.Machine

/-! ### The stateless instruments, as functions of the phase `t = FRAC(advance)` (R171) -/

/-- TRIANGLE (R172): `0.5 · (|4t - 2| - 1)`. -/
def triangleVal (t : Word) : Word :=
  mulVal K_HALF (subVal (fabsVal (subVal (muliVal t 4) (ones 2))) ONE)

/-- TILTED_SAW (R173). Both divisors are constants that are not 0. -/
def tiltedSawVal (t : Word) : Word :=
  let ret :=
    if S t < S K_A then subVal (divVal (muliVal t 2) K_A) ONE
    else subVal (divVal (muliVal (subVal ONE t) 2) (subVal ONE K_A)) ONE
  diviVal ret 2

/-- SAW (R174): `0.653 · (t < 0.5 ? t : t - 1)`. -/
def sawVal (t : Word) : Word :=
  mulVal K_SAW (if S t < S K_HALF then t else subVal t ONE)

/-- SQUARE (R175). -/
def squareVal (t : Word) : Word :=
  if S t < S K_HALF then 0x00004000 else 0xFFFFC000

/-- PULSE (R176). -/
def pulseVal (t : Word) : Word :=
  if S t < S K_THIRD then 0x00004000 else 0xFFFFC000

/-- ORGAN (R177). -/
def organVal (t : Word) : Word :=
  let ret :=
    if S t < S K_HALF then subVal (ones 3) (fabsVal (subVal (muliVal t 24) (ones 6)))
    else subVal ONE (fabsVal (subVal (muliVal t 16) (ones 12)))
  diviVal ret 9

/-- The slow term `k = |2·FRAC(advance/128) - 1|` of PHASER (R178). -/
def phaserSlow (a : Word) : Word :=
  fabsVal (subVal (muliVal (fracVal (mulVal a K_INV128)) 2) ONE)

/-- PHASER (R178), of the whole advance and the phase. -/
def phaserVal (a t : Word) : Word :=
  let u := fracVal (addVal t (diviVal (phaserSlow a) 2))
  let ret := subVal (fabsVal (subVal (muliVal u 4) (ones 2))) (fabsVal (subVal (muliVal t 8) (ones 4)))
  diviVal ret 6

/-! ### The noise recurrence (R184) -/

/-- The voice GEN NOISE works on: an inactive voice is started first (R184, R186). -/
def noiseVoice (x : Voice) : Voice := if x.active then x else Voice.started

/-- Step 1: `scale = (advance - lastAdvance) / tscale` (R184). -/
def noiseScale (x : Voice) (a : Word) : Word := divVal (subVal a x.lastAdvance) K_TSCALE

/-- `1 + scale` (R184). -/
def noiseDen (x : Voice) (a : Word) : Word := addVal ONE (noiseScale x a)

/-- Step 3 where `1 + scale` is not 0: `(lastSample + scale·random) / (1 + scale)`, `lastSample` being the sample
before this command (R184). -/
def noiseSample (x : Voice) (a b : Word) : Word :=
  divVal (addVal x.sample (mulVal (noiseScale x a) b)) (noiseDen x a)

/-- The voice after steps 2 to 4 with the new sample `sample` (R184). -/
def noiseAfter (x : Voice) (a sample : Word) : Voice :=
  { active := true, lastAdvance := a, sample := sample, lastSample := x.sample }

/-- Step 5: `(lastSample + sample) · (4/3) · (1.75 - scale)`, from left to right (R184). -/
def noiseRaw (lastSample sample scale : Word) : Word :=
  mulVal (mulVal (addVal lastSample sample) K_43) (subVal K_175 scale)

/-- Steps 5 and 6: `clamp(raw, -1, 1) · 0.2` (R184). -/
def noiseOut (lastSample sample scale : Word) : Word :=
  mulVal (clampVal (noiseRaw lastSample sample scale) 0xFFFF0000 0x00010000) K_02

/-! ### Meanings. GEN sets `INIT_DONE` on every execution (R170). -/

/-- GEN TRIANGLE (R170, R172). -/
def execGenTriangle (a : Word) (s : State) : Host.Outcome State Fault Refusal :=
  .next (s.respondInit (triangleVal (fracVal a)))

/-- GEN TILTED_SAW (R170, R173). -/
def execGenTiltedSaw (a : Word) (s : State) : Host.Outcome State Fault Refusal :=
  .next (s.respondInit (tiltedSawVal (fracVal a)))

/-- GEN SAW (R170, R174). -/
def execGenSaw (a : Word) (s : State) : Host.Outcome State Fault Refusal :=
  .next (s.respondInit (sawVal (fracVal a)))

/-- GEN SQUARE (R170, R175). -/
def execGenSquare (a : Word) (s : State) : Host.Outcome State Fault Refusal :=
  .next (s.respondInit (squareVal (fracVal a)))

/-- GEN PULSE (R170, R176). -/
def execGenPulse (a : Word) (s : State) : Host.Outcome State Fault Refusal :=
  .next (s.respondInit (pulseVal (fracVal a)))

/-- GEN ORGAN (R170, R177). -/
def execGenOrgan (a : Word) (s : State) : Host.Outcome State Fault Refusal :=
  .next (s.respondInit (organVal (fracVal a)))

/-- GEN NOISE (R170, R184). With `1 + scale = 0` the stored sample and the response are two UNSPECIFIED words and
every other write happens (U4; log entry 9). -/
def execGenNoise (voice : Byte) (a b : Word) (s : State) : Host.Outcome State Fault Refusal :=
  match s.voiceAt voice with
  | none => .next (s.respondInit 0)
  | some x0 =>
    let x := noiseVoice x0
    if noiseDen x a = 0 then
      .next ((s.markInit.setVoice voice (noiseAfter x a (s.freeWord .noiseSample a b))).drawn.respondFree
        .noiseResponse a b)
    else
      let sample := noiseSample x a b
      .next ((s.setVoice voice (noiseAfter x a sample)).respondInit
        (noiseOut x.sample sample (noiseScale x a)))

/-- GEN PHASER (R170, R178). -/
def execGenPhaser (a : Word) (s : State) : Host.Outcome State Fault Refusal :=
  .next (s.respondInit (phaserVal a (fracVal a)))

/-- GEN with an unknown instrument: silence, and `INIT_DONE` is set (R170, R179). -/
def State.silence (s : State) : State := s.respondInit 0

/-- GEN, `sel` 8 to 15 (R179). -/
def execGenUnk8 (s : State) : Host.Outcome State Fault Refusal := .next s.silence

/-- GEN, `sel` 16 to 31 (R179). -/
def execGenUnk16 (s : State) : Host.Outcome State Fault Refusal := .next s.silence

/-- GEN, `sel` 32 to 63 (R179). -/
def execGenUnk32 (s : State) : Host.Outcome State Fault Refusal := .next s.silence

/-- GEN, `sel` 64 to 127 (R179). -/
def execGenUnk64 (s : State) : Host.Outcome State Fault Refusal := .next s.silence

/-- GEN, `sel` 128 to 255 (R179). -/
def execGenUnk128 (s : State) : Host.Outcome State Fault Refusal := .next s.silence

/-- VSTART, opcode 0x31 (R186): it does not set `INIT_DONE`. -/
def execVstart (voice : Byte) (s : State) : Host.Outcome State Fault Refusal :=
  .next ((s.startVoice voice).respond 0)

/-- VSTOP, opcode 0x32 (R187): it does not set `INIT_DONE`. -/
def execVstop (voice : Byte) (s : State) : Host.Outcome State Fault Refusal :=
  .next ((s.stopVoice voice).respond 0)

end Sys2Proof.Machine
end

