-- ==== Sys2Proof/Machine/Flags.lean ====
section
/-! DEFINITION. The unit has no carry, overflow, zero, sign or sticky flag (R22): no operation computes one. Its only
status bits are those of the read-only `STATUS` word (R26), computed here from the state they are a view of. -/

namespace Sys2Proof.Machine

/-- The `ACTIVE` bits of a voice file whose first voice shows at bit `k` (R26). -/
def activeBits : List Voice → Nat → Word
  | [], _ => 0
  | v :: vs, k => (if v.active then (1 : Word) <<< k else 0) ||| activeBits vs (k + 1)

/-- The `STATUS` word (R26): bit 0 `INIT_DONE`, bit `16 + v` `ACTIVE[v]`, every other bit 0. -/
def statusWord (s : State) : Word :=
  (if s.initDone then 1 else 0) ||| activeBits s.voices 16

end Sys2Proof.Machine
end

