-- ==== Sys2Proof/Machine/TableBank.lean ====
section
/-! DEFINITION. LookupTableBank (file 41): INIT and STAT. -/

namespace Sys2Proof.Machine

/-- INIT, opcode 0x00 (R130): idempotent; its response is the constant 0. -/
def execInit (s : State) : Host.Outcome State Fault Refusal :=
  .next (s.markInit.respond 0)

/-- STAT, opcode 0x01 (R131): the response is the `STATUS` word and no state changes. -/
def execStat (s : State) : Host.Outcome State Fault Refusal :=
  .next (s.respond (statusWord s))

end Sys2Proof.Machine
end

