-- ==== Sys2Proof/Machine/Dispatch.lean ====
section
/-! DEFINITION. `exec`: one arm per constructor of `Instr`, each one call of that instruction's meaning. -/

namespace Sys2Proof.Machine

/-- One command on the state. The voice field of a GEN that is not NOISE, and the sel field of an unknown instrument,
are ignored (R76, R179). -/
def exec (i : Instr) (s : State) : Host.Outcome State Fault Refusal :=
  match i with
  | .init => Sys2Proof.Machine.execInit s
  | .stat => Sys2Proof.Machine.execStat s
  | .add a b => Sys2Proof.Machine.execAdd a b s
  | .sub a b => Sys2Proof.Machine.execSub a b s
  | .mul a b => Sys2Proof.Machine.execMul a b s
  | .div a b => Sys2Proof.Machine.execDiv a b s
  | .lerp a b c => Sys2Proof.Machine.execLerp a b c s
  | .itox a => Sys2Proof.Machine.execItox a s
  | .xtoi a => Sys2Proof.Machine.execXtoi a s
  | .ftox a => Sys2Proof.Machine.execFtox a s
  | .xtof a => Sys2Proof.Machine.execXtof a s
  | .frac a => Sys2Proof.Machine.execFrac a s
  | .fabs a => Sys2Proof.Machine.execFabs a s
  | .sin a => Sys2Proof.Machine.execSin a s
  | .div7 a => Sys2Proof.Machine.execDiv7 a s
  | .div183 a => Sys2Proof.Machine.execDiv183 a s
  | .freq a => Sys2Proof.Machine.execFreq a s
  | .floor a => Sys2Proof.Machine.execFloor a s
  | .muli a b => Sys2Proof.Machine.execMuli a b s
  | .divi a b => Sys2Proof.Machine.execDivi a b s
  | .min a b => Sys2Proof.Machine.execMin a b s
  | .max a b => Sys2Proof.Machine.execMax a b s
  | .clamp a b c => Sys2Proof.Machine.execClamp a b c s
  | .genTriangle _ a => Sys2Proof.Machine.execGenTriangle a s
  | .genTiltedSaw _ a => Sys2Proof.Machine.execGenTiltedSaw a s
  | .genSaw _ a => Sys2Proof.Machine.execGenSaw a s
  | .genSquare _ a => Sys2Proof.Machine.execGenSquare a s
  | .genPulse _ a => Sys2Proof.Machine.execGenPulse a s
  | .genOrgan _ a => Sys2Proof.Machine.execGenOrgan a s
  | .genNoise voice a b => Sys2Proof.Machine.execGenNoise voice a b s
  | .genPhaser _ a => Sys2Proof.Machine.execGenPhaser a s
  | .genUnk8 _ _ => Sys2Proof.Machine.execGenUnk8 s
  | .genUnk16 _ _ => Sys2Proof.Machine.execGenUnk16 s
  | .genUnk32 _ _ => Sys2Proof.Machine.execGenUnk32 s
  | .genUnk64 _ _ => Sys2Proof.Machine.execGenUnk64 s
  | .genUnk128 _ _ => Sys2Proof.Machine.execGenUnk128 s
  | .vstart voice => Sys2Proof.Machine.execVstart voice s
  | .vstop voice => Sys2Proof.Machine.execVstop voice s

end Sys2Proof.Machine
end

