-- ==== Sys2Proof/Machine/Step.lean ====
section
/-! DEFINITION. One step of the unit: it takes the next input in presentation order (R13). A command is decoded and
executed, a reserved word is answered with 0 (R77), a reset resets (R220), and with nothing presented the unit idles. -/

namespace Sys2Proof.Machine

/-- One step. -/
def step (s : State) : Host.Outcome State Fault Refusal :=
  match s.takeInput with
  | none => .next s.idle
  | some (.reset cut, s') => .next (s'.hostReset cut)
  | some (.command p, s') =>
    match decode p with
    | .ok i => exec i s'
    | .error _ => .next s'.answerReserved

/-- The state with the instruction whose bits are `w` presented as the next command, so that the very next step takes
and runs exactly it. -/
def State.withFetchWord (s : State) (nbits w : Nat) : State :=
  s.presentNext (packetOfBits nbits w)

end Sys2Proof.Machine
end

