-- ==== Sys2Proof/Safety.lean ====
section
/-! DEFINITION. The words the claims use: the invariant, what a command may leave behind, the commands whose result the
spec leaves UNSPECIFIED, the real value of a binary32 pattern, the rows of the opcode table, and the state a host can
observe. -/

namespace Sys2Proof.Machine

/-- The invariant of the machine: the voice file has `NVOICE` entries, `1 ≤ NVOICE ≤ 16` (R5, R24). -/
def State.Inv (s : State) : Prop := 1 ≤ s.voices.length ∧ s.voices.length ≤ 16

/-! ### What a command leaves behind -/

/-- `t` is `s` after a command that responds `y` and changes no state of the unit (R100, R131). -/
def answersOnly (s t : State) (y : Word) : Prop :=
  t.response = some y ∧ t.initDone = s.initDone ∧ t.voices = s.voices ∧ t.inbox = s.inbox ∧
    t.draws = s.draws

/-- `t` is `s` after a command that responds `y`, sets `INIT_DONE` and changes nothing else (R130, R140, R170). -/
def answersInit (s t : State) (y : Word) : Prop :=
  t.response = some y ∧ t.initDone = true ∧ t.voices = s.voices ∧ t.inbox = s.inbox ∧
    t.draws = s.draws

/-- `t` is `s` after a command that responds `y` and writes `x` to voice `v`, and changes nothing else but `INIT_DONE`,
which becomes `d`. -/
def answersVoice (s t : State) (y : Word) (v : Byte) (x : Voice) (d : Bool) : Prop :=
  t.response = some y ∧ t.initDone = d ∧ t.voices = s.voices.set v.toNat x ∧ t.inbox = s.inbox ∧
    t.draws = s.draws

/-- `t` is `s` after a command with an UNSPECIFIED response: some word, one draw of the model's counter used (log entry
5); `INIT_DONE` becomes `d` and nothing else changes (R12, U1 to U3). -/
def answersAnyWord (s t : State) (d : Bool) : Prop :=
  (∃ y, t.response = some y) ∧ t.initDone = d ∧ t.voices = s.voices ∧ t.inbox = s.inbox ∧
    t.draws = s.draws + 1

/-- Issued as a command of its own in any state, `i` responds `y` (R181). -/
def yields (i : Instr) (y : Word) : Prop :=
  ∀ s, ∃ t, exec i s = .next t ∧ t.response = some y

/-- The command falls under one of U1 to U4 of file 93 on this state: DIV or DIVI by zero, FTOX of a float that is not
finite or does not fit, GEN NOISE on an existing voice with `1 + scale = 0`. -/
def unspecifiedOn (i : Instr) (s : State) : Bool :=
  match i with
  | .div _ b => decide (S b = 0)
  | .divi _ b => decide (S b = 0)
  | .ftox a => (ftoxVal a).isNone
  | .genNoise voice a _ =>
    match s.voiceAt voice with
    | none => false
    | some x => decide (noiseDen (noiseVoice x) a = 0)
  | .init | .stat => false
  | .add _ _ | .sub _ _ | .mul _ _ | .lerp _ _ _ | .itox _ | .xtoi _ | .xtof _ => false
  | .frac _ | .fabs _ | .sin _ | .div7 _ | .div183 _ | .freq _ | .floor _ => false
  | .muli _ _ | .min _ _ | .max _ _ | .clamp _ _ _ => false
  | .genTriangle _ _ | .genTiltedSaw _ _ | .genSaw _ _ | .genSquare _ _ => false
  | .genPulse _ _ | .genOrgan _ _ | .genPhaser _ _ => false
  | .genUnk8 _ _ | .genUnk16 _ _ | .genUnk32 _ _ | .genUnk64 _ _ | .genUnk128 _ _ => false
  | .vstart _ | .vstop _ => false

/-- The command initialises the table bank: INIT, every facade operation and every GEN (R23, R140, R170). -/
def setsInit (i : Instr) : Bool :=
  i.op.code = 0x00 ∨ 0x20 ≤ i.op.code.toNat ∧ i.op.code.toNat ≤ 0x30

/-- The command reads or writes voice `v` when that voice exists: GEN NOISE, VSTART or VSTOP on it (R25). -/
def touches (v : Byte) (i : Instr) : Bool :=
  match i with
  | .genNoise w _ _ => decide (w = v)
  | .vstart w => decide (w = v)
  | .vstop w => decide (w = v)
  | .init | .stat => false
  | .add _ _ | .sub _ _ | .mul _ _ | .div _ _ | .lerp _ _ _ => false
  | .itox _ | .xtoi _ | .ftox _ | .xtof _ => false
  | .frac _ | .fabs _ | .sin _ | .div7 _ | .div183 _ | .freq _ | .floor _ => false
  | .muli _ _ | .divi _ _ | .min _ _ | .max _ _ | .clamp _ _ _ => false
  | .genTriangle _ _ | .genTiltedSaw _ _ | .genSaw _ _ | .genSquare _ _ => false
  | .genPulse _ _ | .genOrgan _ _ | .genPhaser _ _ => false
  | .genUnk8 _ _ | .genUnk16 _ _ | .genUnk32 _ _ | .genUnk64 _ _ | .genUnk128 _ _ => false

/-- The responses that the commands touching voice `v` get when all of `is` are executed in order from `s` (R25, R56). -/
def voiceResponses (v : Byte) : List Instr → State → List (Option Word)
  | [], _ => []
  | i :: is, s =>
    match exec i s with
    | .next t => if touches v i then t.response :: voiceResponses v is t else voiceResponses v is t
    | .fault _ => []
    | .refused _ => []

/-- No command of `is`, executed in order from `s`, has an UNSPECIFIED result. -/
def allSpecified : List Instr → State → Prop
  | [], _ => True
  | i :: is, s => unspecifiedOn i s = false ∧ ∀ t, exec i s = .next t → allSpecified is t

/-! ### Binary32 (R108) -/

/-- The real value of a binary32 pattern that is not an infinity or a NaN. -/
def f32Value (a : Word) : ℚ :=
  (if f32Sign a then -1 else 1) *
    (if f32Exp a = 0 then (f32Frac a : ℚ) * 2 ^ (-149 : ℤ)
      else (2 ^ 23 + f32Frac a : ℚ) * 2 ^ ((f32Exp a : ℤ) - 150))

/-- Rounding toward zero, `trunc` (R10). -/
def truncQ (q : ℚ) : ℤ := if 0 ≤ q then ⌊q⌋ else ⌈q⌉

/-- The real number a Q16.16 word encodes (R7). -/
def fxValue (a : Word) : ℚ := (S a : ℚ) / 65536

/-! ### The opcode table -/

/-- Mask and match of the row of spec/opcode_table.json that an instruction stands for (R78). -/
def tableRow : Instr → Word × Word
  | .init => (0xFFFFFFFF, 0x00000000)
  | .stat => (0xFFFFFFFF, 0x00000001)
  | .add _ _ => (0xFFFFFFFF, 0x00000010)
  | .sub _ _ => (0xFFFFFFFF, 0x00000011)
  | .mul _ _ => (0xFFFFFFFF, 0x00000012)
  | .div _ _ => (0xFFFFFFFF, 0x00000013)
  | .lerp _ _ _ => (0xFFFFFFFF, 0x00000014)
  | .itox _ => (0xFFFFFFFF, 0x00000015)
  | .xtoi _ => (0xFFFFFFFF, 0x00000016)
  | .ftox _ => (0xFFFFFFFF, 0x00000017)
  | .xtof _ => (0xFFFFFFFF, 0x00000018)
  | .frac _ => (0xFFFFFFFF, 0x00000020)
  | .fabs _ => (0xFFFFFFFF, 0x00000021)
  | .sin _ => (0xFFFFFFFF, 0x00000022)
  | .div7 _ => (0xFFFFFFFF, 0x00000023)
  | .div183 _ => (0xFFFFFFFF, 0x00000024)
  | .freq _ => (0xFFFFFFFF, 0x00000025)
  | .floor _ => (0xFFFFFFFF, 0x00000026)
  | .muli _ _ => (0xFFFFFFFF, 0x00000027)
  | .divi _ _ => (0xFFFFFFFF, 0x00000028)
  | .min _ _ => (0xFFFFFFFF, 0x00000029)
  | .max _ _ => (0xFFFFFFFF, 0x0000002A)
  | .clamp _ _ _ => (0xFFFFFFFF, 0x0000002B)
  | .genTriangle _ _ => (0xFF00FFFF, 0x00000030)
  | .genTiltedSaw _ _ => (0xFF00FFFF, 0x00000130)
  | .genSaw _ _ => (0xFF00FFFF, 0x00000230)
  | .genSquare _ _ => (0xFF00FFFF, 0x00000330)
  | .genPulse _ _ => (0xFF00FFFF, 0x00000430)
  | .genOrgan _ _ => (0xFF00FFFF, 0x00000530)
  | .genNoise _ _ _ => (0xFF00FFFF, 0x00000630)
  | .genPhaser _ _ => (0xFF00FFFF, 0x00000730)
  | .genUnk8 _ _ => (0xFF00F8FF, 0x00000830)
  | .genUnk16 _ _ => (0xFF00F0FF, 0x00001030)
  | .genUnk32 _ _ => (0xFF00E0FF, 0x00002030)
  | .genUnk64 _ _ => (0xFF00C0FF, 0x00004030)
  | .genUnk128 _ _ => (0xFF0080FF, 0x00008030)
  | .vstart _ => (0xFF00FFFF, 0x00000031)
  | .vstop _ => (0xFF00FFFF, 0x00000032)

/-- A command word matches the row of the opcode table that `i` stands for. -/
def matchesRow (cmd : Word) (i : Instr) : Prop := cmd &&& (tableRow i).1 = (tableRow i).2

/-! ### What a host can observe -/

/-- Two voices that differ at most in the three words of a voice that is not active (R31). -/
def sameVoice (x y : Voice) : Prop := x = y ∨ x.active = false ∧ y.active = false

/-- Two states that differ at most in the three words of voices that are not active (R31). -/
def sameVisible (s t : State) : Prop :=
  s.initDone = t.initDone ∧ List.Forall₂ sameVoice s.voices t.voices ∧ s.response = t.response ∧
    s.inbox = t.inbox ∧ s.draws = t.draws

end Sys2Proof.Machine
end

