-- ==== Sys2Proof/Certificates/Slice0/Obligations.lean ====
section
/-! DEFINITION. The statements for the provers. A clause `decode ⟨cmd, a, b, c⟩ = .ok i` gives an instruction its
encoding; `exec i s = .next t` with what `t` holds says where it completes; the words of Sys2Proof/Safety.lean
(`answersOnly`, `answersInit`, `yields`, …) say what else changes: nothing. No statement rests on the value of an
UNSPECIFIED word, and the number of voices is any number unless `State.Inv` stands as a hypothesis. -/

open Sys2Proof Sys2Proof.Machine

/-! ### Encoding and the step -/

/-- Every well-formed instruction is read back from its own packet (R70, R71, R74, R75, R78). -/
def Obligations.DecodeOfEncode : Prop :=
  ∀ i : Instr, i.wellFormed = true → decode (encode i) = .ok i

/-- What the decoder reads is well-formed and stands for exactly the command word it was read from (R71, R78). -/
def Obligations.DecodedWordReencodes : Prop :=
  ∀ (p : Packet) (i : Instr), decode p = .ok i → i.wellFormed = true ∧ (encode i).cmd = p.cmd

/-- R77: a command word is reserved exactly in the cases (a) to (d); a reserved command responds 0 and changes no state. -/
def Obligations.ReservedWordsAnswerZero : Prop :=
  ∀ p : Packet,
    ((p.cmd.extractLsb' 24 8 ≠ 0 ∨
        (p.cmd.extractLsb' 0 8).toNat ∉
          [0x00, 0x01, 0x10, 0x11, 0x12, 0x13, 0x14, 0x15, 0x16, 0x17, 0x18, 0x20, 0x21, 0x22, 0x23, 0x24,
            0x25, 0x26, 0x27, 0x28, 0x29, 0x2A, 0x2B, 0x30, 0x31, 0x32] ∨
        (p.cmd.extractLsb' 8 8 ≠ 0 ∧ (p.cmd.extractLsb' 0 8).toNat ≠ 0x30) ∨
        (p.cmd.extractLsb' 16 8 ≠ 0 ∧ (p.cmd.extractLsb' 0 8).toNat ∉ [0x30, 0x31, 0x32])) ↔
      ∃ r, decode p = .error r) ∧
    ∀ (r : Reserved) (s : State) (rest : List HostInput), decode p = .error r →
      ∃ t, step { s with inbox := .command p :: rest } = .next t ∧
        answersOnly { s with inbox := rest } t 0

/-- The match and mask pairs of the opcode table (R78): a decoded word matches the row of its instruction, it matches no
other row, and every word that matches a row decodes. -/
def Obligations.DecodeFollowsOpcodeTable : Prop :=
  (∀ (p : Packet) (i : Instr), decode p = .ok i → matchesRow p.cmd i) ∧
  (∀ (p : Packet) (i j : Instr), decode p = .ok i → matchesRow p.cmd j → tableRow j = tableRow i) ∧
  ∀ (p : Packet) (j : Instr), matchesRow p.cmd j → ∃ i, decode p = .ok i

/-- A few command words, written out from R71, R74 and R75, decode to what they stand for; unused operand words are
ignored (R72). -/
def Obligations.SampleWordsDecode : Prop :=
  decode ⟨0x00000000, 0xDEADBEEF, 0x12345678, 0xFFFFFFFF⟩ = .ok .init ∧
  decode ⟨0x00000013, 3, 2, 7⟩ = .ok (.div 3 2) ∧
  decode ⟨0x0000002B, 1, 2, 3⟩ = .ok (.clamp 1 2 3) ∧
  decode ⟨0x00020630, 5, 6, 7⟩ = .ok (.genNoise 2 5 6) ∧
  decode ⟨0x0000C830, 5, 6, 7⟩ = .ok (.genUnk128 0xC8 0) ∧
  decode ⟨0x00C80031, 5, 6, 7⟩ = .ok (.vstart 0xC8) ∧
  decode ⟨0x01000012, 1, 1, 0⟩ = .error .rsvNotZero ∧
  decode ⟨0x00000112, 1, 1, 0⟩ = .error .selNotZero ∧
  decode ⟨0x00010012, 1, 1, 0⟩ = .error .voiceNotZero ∧
  decode ⟨0x00000033, 1, 1, 0⟩ = .error .unknownOpcode

/-- A step takes the first command presented and runs the instruction it decodes to, which is well-formed, on the state
without that command (R13, R78; that commands wait in `inbox` is the model's form, log entry 4). -/
def Obligations.StepRunsTheDecodedCommand : Prop :=
  ∀ (s : State) (p : Packet) (rest : List HostInput) (i : Instr), decode p = .ok i →
    i.wellFormed = true ∧
      step { s with inbox := .command p :: rest } = exec i { s with inbox := rest }

/-- The model's choice (log entry 4): with nothing presented the unit stays as it is and answers nothing. -/
def Obligations.StepIdlesWithNothingPresented : Prop :=
  ∀ s : State, step { s with inbox := [] } = .next { s with inbox := [], response := none }

/-- R220, R221: a reset between commands, or one that cuts a command off, leaves the reset values in every piece of the
unit's state, keeps the number of voices, and the host's later inputs are taken next (the inputs' form is the model's choice, log
entries 3 and 4). -/
def Obligations.ResetInputRestoresResetValues : Prop :=
  ∀ (s : State) (cut : Option Packet) (rest : List HostInput),
    ∃ t, step { s with inbox := .reset cut :: rest } = .next t ∧
      t.initDone = false ∧ t.voices.length = s.voices.length ∧
      (∀ x ∈ t.voices, x = ⟨false, 0, 0, 0⟩) ∧ statusWord t = 0 ∧ t.inbox = rest ∧
      (cut = none → t.response = none)

/-- The state after reset, for every number of voices (R30, R221; that no response is held is the field `response`
being `none`, the model's form, log entry 4). -/
def Obligations.PowerOnStateIsTheResetState : Prop :=
  ∀ n : Nat,
    (State.resetWith n).initDone = false ∧ (State.resetWith n).voices.length = n ∧
    (∀ x ∈ (State.resetWith n).voices,
      x.active = false ∧ x.lastAdvance = 0 ∧ x.sample = 0 ∧ x.lastSample = 0) ∧
    (State.resetWith n).response = none ∧ statusWord (State.resetWith n) = 0

/-! ### FixedPointCore -/

/-- ADD (R101) and SUB (R102). -/
def Obligations.AddAndSubWrap : Prop :=
  ∀ (a b c : Word) (s : State),
    decode ⟨0x00000010, a, b, c⟩ = .ok (.add a b) ∧
    (∃ t y, exec (.add a b) s = .next t ∧ answersOnly s t y ∧ S y = wrap32 (S a + S b)) ∧
    decode ⟨0x00000011, a, b, c⟩ = .ok (.sub a b) ∧
    ∃ t y, exec (.sub a b) s = .next t ∧ answersOnly s t y ∧ S y = wrap32 (S a - S b)

/-- MUL (R103): the floor `q` of the exact product over 65536, narrowed. -/
def Obligations.MulFloorsTheProduct : Prop :=
  ∀ (a b c : Word) (s : State),
    decode ⟨0x00000012, a, b, c⟩ = .ok (.mul a b) ∧
    ∃ t y q, exec (.mul a b) s = .next t ∧ answersOnly s t y ∧
      q * 65536 ≤ S a * S b ∧ S a * S b < (q + 1) * 65536 ∧ S y = wrap32 q

/-- DIV (R104): the quotient `q` of `a·65536` by `b` rounded toward zero, narrowed; with a zero divisor the response is
some word and no state of the unit changes (that the draw counter advances by one is the model's choice, log entry 5). -/
def Obligations.DivTruncatesTowardZero : Prop :=
  ∀ (a b c : Word) (s : State),
    decode ⟨0x00000013, a, b, c⟩ = .ok (.div a b) ∧
    (S b ≠ 0 → ∃ t y q, exec (.div a b) s = .next t ∧ answersOnly s t y ∧
      |q| * |S b| ≤ |S a * 65536| ∧ |S a * 65536| < (|q| + 1) * |S b| ∧ 0 ≤ q * (S a * S b) ∧
      S y = wrap32 q) ∧
    (S b = 0 → ∃ t, exec (.div a b) s = .next t ∧ answersAnyWord s t s.initDone)

/-- LERP (R105): the unit's own SUB, MUL and ADD, one after the other; at `t = 0` it gives `a` and at `t = 1` it gives
`b`, even where `b - a` overflows. -/
def Obligations.LerpIsSubMulAddWithExactEndpoints : Prop :=
  (∀ (a b c : Word) (s : State),
    decode ⟨0x00000014, a, b, c⟩ = .ok (.lerp a b c) ∧
    ∃ d m y t, yields (.sub b a) d ∧ yields (.mul d c) m ∧ yields (.add a m) y ∧
      exec (.lerp a b c) s = .next t ∧ answersOnly s t y) ∧
  ∀ a b : Word, yields (.lerp a b 0) a ∧ yields (.lerp a b 0x00010000) b

/-- ITOX (R106) and XTOI (R107), and XTOI takes back what ITOX made of an integer that fits 16 bits. -/
def Obligations.IntegerConversions : Prop :=
  ∀ (a b c : Word) (s : State),
    decode ⟨0x00000015, a, b, c⟩ = .ok (.itox a) ∧
    (∃ t y, exec (.itox a) s = .next t ∧ answersOnly s t y ∧ S y = wrap32 (S a * 65536) ∧
      (-32768 ≤ S a → S a ≤ 32767 → yields (.xtoi y) a)) ∧
    decode ⟨0x00000016, a, b, c⟩ = .ok (.xtoi a) ∧
    ∃ t y, exec (.xtoi a) s = .next t ∧ answersOnly s t y ∧
      S y * 65536 ≤ S a ∧ S a < (S y + 1) * 65536

/-- FTOX (R108): `trunc(value · 65536)` where that fits 32 bits; elsewhere, and for an infinity or a NaN, the response
is some word and no state of the unit changes (that the draw counter advances by one is the model's choice, log entry
5). -/
def Obligations.FtoxTruncatesTheFloat : Prop :=
  ∀ (a b c : Word) (s : State),
    decode ⟨0x00000017, a, b, c⟩ = .ok (.ftox a) ∧
    (f32Exp a ≠ 255 → -2147483648 ≤ truncQ (f32Value a * 65536) → truncQ (f32Value a * 65536) ≤ 2147483647 →
      ∃ t y, exec (.ftox a) s = .next t ∧ answersOnly s t y ∧ S y = truncQ (f32Value a * 65536)) ∧
    (f32Exp a = 255 ∨ truncQ (f32Value a * 65536) < -2147483648 ∨ 2147483647 < truncQ (f32Value a * 65536) →
      ∃ t, exec (.ftox a) s = .next t ∧ answersAnyWord s t s.initDone)

/-- XTOF (R109): no binary32 is nearer to the value than the response, and where another one is as near the response
has the even significand; 0 gives +0.0. -/
def Obligations.XtofRoundsToNearestEven : Prop :=
  ∀ (a b c : Word) (s : State),
    decode ⟨0x00000018, a, b, c⟩ = .ok (.xtof a) ∧
    ∃ t y, exec (.xtof a) s = .next t ∧ answersOnly s t y ∧ f32Exp y ≠ 255 ∧
      (∀ w, f32Exp w ≠ 255 → |f32Value y - fxValue a| ≤ |f32Value w - fxValue a|) ∧
      (∀ w, f32Exp w ≠ 255 → f32Value w ≠ f32Value y →
        |f32Value w - fxValue a| = |f32Value y - fxValue a| → y.getLsbD 0 = false) ∧
      (S a = 0 → y = 0)

/-- `FTOX(XTOF(a)) = a` whenever `|S(a)| < 2^24` (R109). -/
def Obligations.XtofThenFtoxReturnsTheWord : Prop :=
  ∀ a : Word, |S a| < 16777216 → ∃ f, yields (.xtof a) f ∧ yields (.ftox f) a

/-! ### LookupTableBank and the ROM -/

/-- INIT (R130): the response is 0, `INIT_DONE` is 1, nothing else changes; a second INIT changes nothing. -/
def Obligations.InitSetsInitDone : Prop :=
  ∀ (a b c : Word) (s : State),
    decode ⟨0x00000000, a, b, c⟩ = .ok .init ∧
    ∃ t, exec .init s = .next t ∧ answersInit s t 0 ∧ exec .init t = .next t

/-- STAT (R131, R26): bit 0 is `INIT_DONE`, bit `16 + v` is `ACTIVE[v]`, every other bit is 0; no state changes. -/
def Obligations.StatReportsTheStatusWord : Prop :=
  ∀ (a b c : Word) (s : State), s.Inv →
    decode ⟨0x00000001, a, b, c⟩ = .ok .stat ∧
    ∃ t y, exec .stat s = .next t ∧ answersOnly s t y ∧
      y.getLsbD 0 = s.initDone ∧
      (∀ k, 1 ≤ k → k ≤ 15 → y.getLsbD k = false) ∧
      ∀ v, v ≤ 15 → y.getLsbD (16 + v) = ((s.voices[v]?).map Voice.active).getD false

/-- The read primitive (R42) never leaves its bank (R40): any integer index reads the nearest entry. -/
def Obligations.RomReadStaysInItsBank : Prop :=
  Bank.FREQ.entries.length = 64 ∧ Bank.SIN.entries.length = 256 ∧ Bank.FMOD.entries.length = 101 ∧
  Bank.ABS.entries.length = 201 ∧ Bank.DIV7.entries.length = 8 ∧ Bank.DIV183.entries.length = 256 ∧
  ∀ (bank : Bank) (i : Int),
    bank.entries[(max 0 (min i ((bank.entries.length : Int) - 1))).toNat]? = some (romRead bank i)

/-- The checks of R50 on the ROM literals, and the symmetries of `SIN_ROM` (R45). -/
def Obligations.RomLiteralsPassTheirChecks : Prop :=
  freqRom.sum = 2834250382 ∧ sinRom.sum = 0 ∧ (sinRom.map fun x => (x.natAbs : Int)).sum = 10680068 ∧
  fmodRom.sum = 3243984 ∧ absRom.sum = 6619040 ∧ div7Rom.sum = 262141 ∧ div183Rom.sum = 11688918 ∧
  (∀ k ≤ 51, freqRom.getD (k + 12) 0 = 2 * freqRom.getD k 0 ∨
    freqRom.getD (k + 12) 0 = 2 * freqRom.getD k 0 + 1) ∧
  (∀ i < 128, sinRom.getD (i + 128) 0 = -sinRom.getD i 0) ∧
  ∀ i < 128, 1 ≤ i → sinRom.getD (128 - i) 0 = sinRom.getD i 0

/-! ### FastMathFacade -/

/-- FRAC (R141): on `[0, 1]` the fractional part of the nearest grid point `k/100`, ties upward; outside, the exact
fractional part with the operand's sign. `INIT_DONE` is set and nothing else changes. -/
def Obligations.FracTableOrExact : Prop :=
  ∀ (a b c : Word) (s : State),
    decode ⟨0x00000020, a, b, c⟩ = .ok (.frac a) ∧
    ∃ t y, exec (.frac a) s = .next t ∧ answersInit s t y ∧
      (0 ≤ S a → S a ≤ 65536 → ∃ k : Int,
        65536 * k ≤ S a * 100 + 32768 ∧ S a * 100 + 32768 < 65536 * (k + 1) ∧
        S y = if k = 100 then 0 else 65536 * k / 100) ∧
      (65536 < S a → S y = S a % 65536) ∧
      (S a < 0 → S y = -((-S a) % 65536))

/-- FABS (R142): on `[-1, 1]` the absolute value of the nearest grid point `j/100`, ties upward; outside, the exact
absolute value, but for `-2^31`. `INIT_DONE` is set and nothing else changes. -/
def Obligations.FabsTableOrExact : Prop :=
  ∀ (a b c : Word) (s : State),
    decode ⟨0x00000021, a, b, c⟩ = .ok (.fabs a) ∧
    ∃ t y, exec (.fabs a) s = .next t ∧ answersInit s t y ∧
      (-65536 ≤ S a → S a ≤ 65536 → ∃ j : Int,
        65536 * j ≤ S a * 100 + 32768 ∧ S a * 100 + 32768 < 65536 * (j + 1) ∧
        S y = 65536 * |j| / 100) ∧
      (65536 < |S a| → S a ≠ -2147483648 → S y = |S a|) ∧
      (S a = -2147483648 → y = 0x80000000)

/-- The error of the 0.01 quantizer (R143 b, c): at most 328 raw units for FABS on its whole domain and for FRAC below
raw 65209; from there to 1.0 FRAC responds 0. -/
def Obligations.QuantizerErrorBound : Prop :=
  ∀ a : Word,
    (0 ≤ S a → S a ≤ 65208 → ∃ y, yields (.frac a) y ∧ |S y - S a| ≤ 328) ∧
    (65209 ≤ S a → S a ≤ 65536 → yields (.frac a) 0) ∧
    (-65536 ≤ S a → S a ≤ 65536 → ∃ y, yields (.fabs a) y ∧ |S y - (|S a|)| ≤ 328)

/-- Grid exactness (R143 a): FRAC of the word of `k/100` is that word for `0 ≤ k ≤ 99`, and FABS of the word of `k/100`
is its absolute value for `-100 ≤ k ≤ 100`. -/
def Obligations.GridPointsAreExact : Prop :=
  ∀ k : Int,
    (0 ≤ k → k ≤ 99 → ∀ x, S x = 65536 * k / 100 → yields (.frac x) x) ∧
    (-100 ≤ k → k ≤ 100 → ∀ x, S x = Int.tdiv (65536 * k) 100 → ∃ y, yields (.fabs x) y ∧ S y = |S x|)

/-- SIN (R144): entry `floor(x·255)` of the table, clamped to `0 .. 255`: entry 0 for every negative phase, entry 255 for
every phase of 1.0 or more. `INIT_DONE` is set and nothing else changes. -/
def Obligations.SinClampsItsIndex : Prop :=
  ∀ (a b c : Word) (s : State),
    decode ⟨0x00000022, a, b, c⟩ = .ok (.sin a) ∧
    ∃ t y, exec (.sin a) s = .next t ∧ answersInit s t y ∧
      (S a < 0 → S y = 0) ∧ (65536 ≤ S a → S y = -1608) ∧
      ∀ k : Nat, k ≤ 255 → 65536 * (k : Int) ≤ S a * 255 → S a * 255 < 65536 * (k + 1) →
        sinRom[k]? = some (S y)

/-- DIV7 (R145) and DIV183 (R146): inside and outside the table one function, `tdiv(v·65536, d)` narrowed; `INIT_DONE` is
set and nothing else changes. -/
def Obligations.DivisionsBySevenAnd183 : Prop :=
  ∀ (a b c : Word) (s : State),
    decode ⟨0x00000023, a, b, c⟩ = .ok (.div7 a) ∧
    (∃ t y, exec (.div7 a) s = .next t ∧ answersInit s t y ∧ S y = wrap32 (Int.tdiv (S a * 65536) 7)) ∧
    decode ⟨0x00000024, a, b, c⟩ = .ok (.div183 a) ∧
    ∃ t y, exec (.div183 a) s = .next t ∧ answersInit s t y ∧ S y = wrap32 (Int.tdiv (S a * 65536) 183)

/-- FREQ (R147): for a key in `0 .. 63` the response is the real frequency `440·2^((key-33)/12)` truncated to Q16.16, and
0 for every other key; `INIT_DONE` is set and nothing else changes. -/
def Obligations.FreqIsTheTruncatedFrequency : Prop :=
  ∀ (a b c : Word) (s : State),
    decode ⟨0x00000025, a, b, c⟩ = .ok (.freq a) ∧
    ∃ t y, exec (.freq a) s = .next t ∧ answersInit s t y ∧
      (0 ≤ S a → S a ≤ 63 →
        (S y : ℝ) ≤ 440 * (2 : ℝ) ^ (((S a : ℝ) - 33) / 12) * 65536 ∧
        440 * (2 : ℝ) ^ (((S a : ℝ) - 33) / 12) * 65536 < (S y : ℝ) + 1) ∧
      (S a < 0 ∨ 63 < S a → y = 0)

/-- FLOOR (R148): the greatest integer-valued Q16.16 number not above the operand, which is `ITOX(XTOI(a))`;
`INIT_DONE` is set and nothing else changes. -/
def Obligations.FloorIsTheGreatestIntegerBelow : Prop :=
  ∀ (a b c : Word) (s : State),
    decode ⟨0x00000026, a, b, c⟩ = .ok (.floor a) ∧
    ∃ t y n, exec (.floor a) s = .next t ∧ answersInit s t y ∧
      S y % 65536 = 0 ∧ S y ≤ S a ∧ S a < S y + 65536 ∧ yields (.xtoi a) n ∧ yields (.itox n) y

/-- MULI (R149): the exact product, narrowed. DIVI (R150): the quotient `q` rounded toward zero, narrowed; with a zero
divisor the response is some word (that the draw counter then advances by one is the model's choice, log entry 5). Both
set `INIT_DONE`, DIVI by zero too, and change nothing else of the unit. -/
def Obligations.MuliAndDiviUseAnIntegerOperand : Prop :=
  ∀ (a b c : Word) (s : State),
    decode ⟨0x00000027, a, b, c⟩ = .ok (.muli a b) ∧
    (∃ t y, exec (.muli a b) s = .next t ∧ answersInit s t y ∧ S y = wrap32 (S a * S b)) ∧
    decode ⟨0x00000028, a, b, c⟩ = .ok (.divi a b) ∧
    (S b ≠ 0 → ∃ t y q, exec (.divi a b) s = .next t ∧ answersInit s t y ∧
      |q| * |S b| ≤ |S a| ∧ |S a| < (|q| + 1) * |S b| ∧ 0 ≤ q * (S a * S b) ∧ S y = wrap32 q) ∧
    (S b = 0 → ∃ t, exec (.divi a b) s = .next t ∧ answersAnyWord s t true)

/-- MIN (R151) and MAX (R152), signed. CLAMP (R153): `lo` below `lo`, `hi` above `hi`, else the operand; with `lo > hi`
always `hi`. Each sets `INIT_DONE` and changes nothing else. -/
def Obligations.MinMaxAndClampAreSigned : Prop :=
  ∀ (a b c : Word) (s : State),
    decode ⟨0x00000029, a, b, c⟩ = .ok (.min a b) ∧
    (∃ t y, exec (.min a b) s = .next t ∧ answersInit s t y ∧ S y = min (S a) (S b)) ∧
    decode ⟨0x0000002A, a, b, c⟩ = .ok (.max a b) ∧
    (∃ t y, exec (.max a b) s = .next t ∧ answersInit s t y ∧ S y = max (S a) (S b)) ∧
    decode ⟨0x0000002B, a, b, c⟩ = .ok (.clamp a b c) ∧
    ∃ t y, exec (.clamp a b c) s = .next t ∧ answersInit s t y ∧
      (S c < S b → y = c) ∧
      (S b ≤ S c → S a < S b → y = b) ∧
      (S b ≤ S c → S c < S a → y = c) ∧
      (S b ≤ S a → S a ≤ S c → y = a)

/-! ### GEN, the stateless instruments -/

/-- TRIANGLE (R170, R172): the host gets the same response from FRAC, MULI, SUB, FABS, SUB and MUL (R181). GEN sets
`INIT_DONE` and changes nothing else, whatever the voice field. -/
def Obligations.TriangleIsItsFormula : Prop :=
  ∀ (voice : Byte) (a b c : Word) (s : State),
    decode ⟨cmdWord 0x30 0 voice, a, b, c⟩ = .ok (.genTriangle voice a) ∧
    ∃ p q w m d y t, yields (.frac a) p ∧ yields (.muli p 4) q ∧ yields (.sub q 0x00020000) w ∧
      yields (.fabs w) m ∧ yields (.sub m ONE) d ∧ yields (.mul K_HALF d) y ∧
      exec (.genTriangle voice a) s = .next t ∧ answersInit s t y

/-- TILTED_SAW (R170, R173), by the unit's own operations (R181). -/
def Obligations.TiltedSawIsItsFormula : Prop :=
  ∀ (voice : Byte) (a b c : Word) (s : State),
    decode ⟨cmdWord 0x30 1 voice, a, b, c⟩ = .ok (.genTiltedSaw voice a) ∧
    ∃ p q r d ret y t, yields (.frac a) p ∧
      (S p < 58982 → yields (.muli p 2) q ∧ yields (.div q K_A) d) ∧
      (58982 ≤ S p → yields (.sub ONE p) r ∧ yields (.muli r 2) q ∧ yields (.div q 0x0000199A) d) ∧
      yields (.sub d ONE) ret ∧ yields (.divi ret 2) y ∧
      exec (.genTiltedSaw voice a) s = .next t ∧ answersInit s t y

/-- SAW (R170, R174), SQUARE (R175) and PULSE (R176), by the unit's own operations (R181). -/
def Obligations.SawSquareAndPulseAreTheirFormulas : Prop :=
  ∀ (voice : Byte) (a b c : Word) (s : State),
    decode ⟨cmdWord 0x30 2 voice, a, b, c⟩ = .ok (.genSaw voice a) ∧
    decode ⟨cmdWord 0x30 3 voice, a, b, c⟩ = .ok (.genSquare voice a) ∧
    decode ⟨cmdWord 0x30 4 voice, a, b, c⟩ = .ok (.genPulse voice a) ∧
    ∃ p, yields (.frac a) p ∧
      (∃ x y t, (S p < 32768 → x = p) ∧ (32768 ≤ S p → yields (.sub p ONE) x) ∧ yields (.mul K_SAW x) y ∧
        exec (.genSaw voice a) s = .next t ∧ answersInit s t y) ∧
      (∃ t, exec (.genSquare voice a) s = .next t ∧
        answersInit s t (if S p < 32768 then 0x00004000 else 0xFFFFC000)) ∧
      ∃ t, exec (.genPulse voice a) s = .next t ∧
        answersInit s t (if S p < 21845 then 0x00004000 else 0xFFFFC000)

/-- ORGAN (R170, R177), by the unit's own operations (R181). -/
def Obligations.OrganIsItsFormula : Prop :=
  ∀ (voice : Byte) (a b c : Word) (s : State),
    decode ⟨cmdWord 0x30 5 voice, a, b, c⟩ = .ok (.genOrgan voice a) ∧
    ∃ p q w m ret y t, yields (.frac a) p ∧
      (S p < 32768 → yields (.muli p 24) q ∧ yields (.sub q 0x00060000) w ∧ yields (.fabs w) m ∧
        yields (.sub 0x00030000 m) ret) ∧
      (32768 ≤ S p → yields (.muli p 16) q ∧ yields (.sub q 0x000C0000) w ∧ yields (.fabs w) m ∧
        yields (.sub ONE m) ret) ∧
      yields (.divi ret 9) y ∧
      exec (.genOrgan voice a) s = .next t ∧ answersInit s t y

/-- PHASER (R170, R178), by the unit's own operations (R181). -/
def Obligations.PhaserIsItsFormula : Prop :=
  ∀ (voice : Byte) (a b c : Word) (s : State),
    decode ⟨cmdWord 0x30 7 voice, a, b, c⟩ = .ok (.genPhaser voice a) ∧
    ∃ p g f f2 f3 k h v u u4 u5 u6 p8 p9 p10 ret y t, yields (.frac a) p ∧
      yields (.mul a K_INV128) g ∧ yields (.frac g) f ∧
      yields (.muli f 2) f2 ∧ yields (.sub f2 ONE) f3 ∧ yields (.fabs f3) k ∧
      yields (.divi k 2) h ∧ yields (.add p h) v ∧ yields (.frac v) u ∧
      yields (.muli u 4) u4 ∧ yields (.sub u4 0x00020000) u5 ∧ yields (.fabs u5) u6 ∧
      yields (.muli p 8) p8 ∧ yields (.sub p8 0x00040000) p9 ∧ yields (.fabs p9) p10 ∧
      yields (.sub u6 p10) ret ∧ yields (.divi ret 6) y ∧
      exec (.genPhaser voice a) s = .next t ∧ answersInit s t y

/-- An unknown instrument (R179): every `sel` from 8 to 255 is a legal GEN that responds 0, sets `INIT_DONE` and touches
no voice, whatever the voice field and the operands. -/
def Obligations.UnknownInstrumentsAreSilent : Prop :=
  (∀ (sel voice : Byte) (a b c : Word) (s : State), 8 ≤ sel.toNat →
    ∃ i t, decode ⟨cmdWord 0x30 sel voice, a, b, c⟩ = .ok i ∧ exec i s = .next t ∧ answersInit s t 0) ∧
  ∀ (sel voice : Byte) (s : State),
    (∃ t, exec (.genUnk8 sel voice) s = .next t ∧ answersInit s t 0) ∧
    (∃ t, exec (.genUnk16 sel voice) s = .next t ∧ answersInit s t 0) ∧
    (∃ t, exec (.genUnk32 sel voice) s = .next t ∧ answersInit s t 0) ∧
    (∃ t, exec (.genUnk64 sel voice) s = .next t ∧ answersInit s t 0) ∧
    ∃ t, exec (.genUnk128 sel voice) s = .next t ∧ answersInit s t 0

/-- The phase `t = FRAC(advance)` lies in `-65535 .. 65535`, is not negative for a non-negative advance, and is not
positive for a negative one (R171). -/
def Obligations.PhaseStaysWithinOneCycle : Prop :=
  ∀ a : Word, ∃ p, yields (.frac a) p ∧ -65535 ≤ S p ∧ S p ≤ 65535 ∧
    (0 ≤ S a → 0 ≤ S p) ∧ (S a < 0 → S p ≤ 0)

/-- The response ranges of TRIANGLE, TILTED_SAW, SAW, SQUARE, PULSE and ORGAN for a non-negative advance (R182). -/
def Obligations.WaveformsStayInTheirRange : Prop :=
  ∀ (voice : Byte) (a : Word), 0 ≤ S a →
    (∃ y, yields (.genTriangle voice a) y ∧ -32768 ≤ S y ∧ S y ≤ 32768) ∧
    (∃ y, yields (.genTiltedSaw voice a) y ∧ -32768 ≤ S y ∧ S y ≤ 32768) ∧
    (∃ y, yields (.genSaw voice a) y ∧ -21398 ≤ S y ∧ S y ≤ 21396) ∧
    (∃ y, yields (.genSquare voice a) y ∧ (S y = -16384 ∨ S y = 16384)) ∧
    (∃ y, yields (.genPulse voice a) y ∧ (S y = -16384 ∨ S y = 16384)) ∧
    ∃ y, yields (.genOrgan voice a) y ∧ -21845 ≤ S y ∧ S y ≤ 21845

/-- The response range of PHASER for a non-negative advance (R182): `-2/3` to `+1/3`. -/
def Obligations.PhaserStaysInItsRange : Prop :=
  ∀ (voice : Byte) (a : Word), 0 ≤ S a →
    ∃ y, yields (.genPhaser voice a) y ∧ -43690 ≤ S y ∧ S y ≤ 21845

/-- TRIANGLE is symmetric about the half cycle within 327 raw units (R172): advance `1 + t` against `2 - t`. -/
def Obligations.TriangleIsSymmetricWithinTolerance : Prop :=
  ∀ (voice : Byte) (a m : Word), 65536 < S a → S a < 131072 → S m = 196608 - S a →
    ∃ y z, yields (.genTriangle voice a) y ∧ yields (.genTriangle voice m) z ∧ |S y - S z| ≤ 327

/-! ### GEN NOISE and the voices -/

/-- NOISE (R184) where `1 + scale` is not 0: the recurrence by the unit's own operations on the voice, which is started
first if it is not active; all four fields of that voice are written, `INIT_DONE` is set, nothing else changes. -/
def Obligations.NoiseRunsItsRecurrence : Prop :=
  ∀ (voice : Byte) (a b c : Word) (s : State) (x0 x : Voice),
    s.voices[voice.toNat]? = some x0 → x = (if x0.active then x0 else ⟨true, 0, 0, 0⟩) → noiseDen x a ≠ 0 →
    decode ⟨cmdWord 0x30 6 voice, a, b, c⟩ = .ok (.genNoise voice a b) ∧
    ∃ d scale m num sample sum third k raw cl y t,
      yields (.sub a x.lastAdvance) d ∧ yields (.div d K_TSCALE) scale ∧
      yields (.add ONE scale) (noiseDen x a) ∧
      yields (.mul scale b) m ∧ yields (.add x.sample m) num ∧ yields (.div num (noiseDen x a)) sample ∧
      yields (.add x.sample sample) sum ∧ yields (.mul sum K_43) third ∧ yields (.sub K_175 scale) k ∧
      yields (.mul third k) raw ∧ yields (.clamp raw 0xFFFF0000 0x00010000) cl ∧ yields (.mul cl K_02) y ∧
      exec (.genNoise voice a b) s = .next t ∧ answersVoice s t y voice ⟨true, a, sample, x.sample⟩ true

/-- NOISE (R184, U4) where `1 + scale` is 0: the stored sample and the response are some words; every other write of
steps 2 to 4 happens, `INIT_DONE` is set and nothing else changes (two draws are the model's choice, log entries 5
and 9). -/
def Obligations.NoiseOpenCaseWritesTheRest : Prop :=
  ∀ (voice : Byte) (a b : Word) (s : State) (x0 x : Voice),
    s.voices[voice.toNat]? = some x0 → x = (if x0.active then x0 else ⟨true, 0, 0, 0⟩) → noiseDen x a = 0 →
    ∃ w y t, exec (.genNoise voice a b) s = .next t ∧
      t.response = some y ∧ t.initDone = true ∧
      t.voices = s.voices.set voice.toNat ⟨true, a, w, x.sample⟩ ∧ t.inbox = s.inbox ∧
      t.draws = s.draws + 2

/-- NOISE, VSTART and VSTOP on a voice number at or above `NVOICE` respond 0 and touch no voice (R76, R184, R186, R187). -/
def Obligations.MissingVoicesAreIgnored : Prop :=
  ∀ (voice : Byte) (a b : Word) (s : State), s.voices.length ≤ voice.toNat →
    (∃ t, exec (.genNoise voice a b) s = .next t ∧ answersInit s t 0) ∧
    (∃ t, exec (.vstart voice) s = .next t ∧ answersOnly s t 0) ∧
    ∃ t, exec (.vstop voice) s = .next t ∧ answersOnly s t 0

/-- VSTART (R186) and VSTOP (R187) on an existing voice: VSTART makes it active with all three words 0, VSTOP clears
`ACTIVE` (and leaves the words: the model's choice where they cannot be observed, log entry 8). -/
def Obligations.StartAndStopOfAVoice : Prop :=
  ∀ (voice : Byte) (a b c : Word) (s : State) (x : Voice), s.voices[voice.toNat]? = some x →
    decode ⟨cmdWord 0x31 0 voice, a, b, c⟩ = .ok (.vstart voice) ∧
    decode ⟨cmdWord 0x32 0 voice, a, b, c⟩ = .ok (.vstop voice) ∧
    (∃ t, exec (.vstart voice) s = .next t ∧ answersVoice s t 0 voice ⟨true, 0, 0, 0⟩ s.initDone) ∧
    ∃ t, exec (.vstop voice) s = .next t ∧
      answersVoice s t 0 voice ⟨false, x.lastAdvance, x.sample, x.lastSample⟩ s.initDone

/-- GEN NOISE on a voice that is not active does what VSTART and then GEN NOISE do (R184, R186). Where the fresh voice has
`1 + scale = 0` the UNSPECIFIED sample and response of the two runs are equal by the model's choice (log entry 2): both
draw the same free words, `Config.freeWord` being one constant of the draw number, which R12 does not promise. -/
def Obligations.NoiseStartsAnInactiveVoice : Prop :=
  ∀ (voice : Byte) (a b : Word) (s s₁ : State),
    (∀ x, s.voices[voice.toNat]? = some x → x.active = false) →
    exec (.vstart voice) s = .next s₁ → exec (.genNoise voice a b) s = exec (.genNoise voice a b) s₁

/-- A NOISE response that is not UNSPECIFIED lies in `-0.2 .. +0.2` (R182, R184). -/
def Obligations.NoiseStaysInItsRange : Prop :=
  ∀ (voice : Byte) (a b : Word) (s : State), unspecifiedOn (.genNoise voice a b) s = false →
    ∃ t y, exec (.genNoise voice a b) s = .next t ∧ t.response = some y ∧ -13107 ≤ S y ∧ S y ≤ 13107

/-- `1 + scale` is 0 exactly when the phase difference is `7397·(65536·j - 1)` for a `j` in `-4 .. 4` (R184). -/
def Obligations.NoiseDenominatorZeroExactly : Prop :=
  ∀ (x : Voice) (a d : Word), yields (.sub a x.lastAdvance) d →
    (noiseDen x a = 0 ↔ ∃ j : Int, -4 ≤ j ∧ j ≤ 4 ∧ S d = 7397 * (65536 * j - 1))

/-- A forward step of the phase below 7397·32767 raw units keeps `1 + scale` at 1.0 or more, so the sample is defined
(R227, with the bound that R184's arithmetic needs: log entry 7); and a larger forward step need not. -/
def Obligations.SmallForwardStepsAreDefined : Prop :=
  (∀ (x : Voice) (a d : Word), yields (.sub a x.lastAdvance) d → 0 ≤ S d → S d < 242377499 →
    65536 ≤ S (noiseDen x a)) ∧
  ∃ (x : Voice) (a : Word), x.active = true ∧ 0 ≤ S x.lastAdvance ∧ S x.lastAdvance ≤ S a ∧ noiseDen x a = 0

/-- A repeated advance gives `scale = 0`: the sample is kept and the draw has no effect on anything (R184). -/
def Obligations.RepeatedAdvanceKeepsTheSample : Prop :=
  ∀ (voice : Byte) (b b' : Word) (s : State) (x : Voice),
    s.voices[voice.toNat]? = some x → x.active = true →
    exec (.genNoise voice x.lastAdvance b) s = exec (.genNoise voice x.lastAdvance b') s ∧
    ∃ t, exec (.genNoise voice x.lastAdvance b) s = .next t ∧
      t.voices[voice.toNat]? = some ⟨true, x.lastAdvance, x.sample, x.sample⟩

/-! ### The whole machine -/

/-- No step ever stops: there is no fault to raise (R200), and no refusal. -/
def Obligations.EveryStepAnswersNext : Prop :=
  ∀ s : State, ∃ t, step s = .next t

/-- The invariant of the machine: a step keeps the voice file at its `NVOICE` entries, `1 ≤ NVOICE ≤ 16` (R5, R24). -/
def Obligations.StepKeepsTheVoiceFile : Prop :=
  ∀ s t : State, s.Inv → step s = .next t → t.Inv ∧ t.voices.length = s.voices.length

/-- The invariant holds after reset, for every number of voices R5 allows, and for `State.reset`, whose number of voices
is the model's choice (log entry 1). -/
def Obligations.ResetMeetsTheInvariant : Prop :=
  State.reset.Inv ∧ ∀ n : Nat, 1 ≤ n → n ≤ 16 → (State.resetWith n).Inv

/-- What any command leaves unchanged (R13, R25, R100): the inputs still waiting, the number of voices, every voice but
the one its voice field names, and all voices unless it is GEN NOISE, VSTART or VSTOP on an existing voice; and every
command responds with a word (R70). -/
def Obligations.CommandFrame : Prop :=
  ∀ (i : Instr) (s t : State), exec i s = .next t →
    (∃ y, t.response = some y) ∧ t.inbox = s.inbox ∧ t.voices.length = s.voices.length ∧
    (∀ u : Nat, u ≠ i.voice.toNat → t.voices[u]? = s.voices[u]?) ∧
    (touches i.voice i = false ∨ s.voices.length ≤ i.voice.toNat → t.voices = s.voices)

/-- `INIT_DONE` (R23, R140, R170, R222): a command sets it exactly when it is INIT, a facade operation or GEN and keeps
it otherwise; no step but a reset returns it to 0. -/
def Obligations.InitDoneIsSetOnceAndKept : Prop :=
  (∀ (i : Instr) (s t : State), exec i s = .next t → t.initDone = (s.initDone || setsInit i)) ∧
  ∀ s t : State, s.initDone = true → step s = .next t →
    t.initDone = true ∨ ∃ cut rest, s.inbox = .reset cut :: rest

/-- A command uses an UNSPECIFIED word exactly in the cases U1 to U4 of file 93 (R12, R104, R108, R150, R184): the
model's draw counter (log entry 5) advances exactly then. -/
def Obligations.FreeWordsOnlyWhereUnspecified : Prop :=
  ∀ (i : Instr) (s t : State), exec i s = .next t →
    s.draws ≤ t.draws ∧ (t.draws = s.draws ↔ unspecifiedOn i s = false)

/-- A voice is the exclusive property of its own commands (R25, R185, the source's S7): whatever commands to other voices,
and whatever stateless commands, are interleaved with the commands of voice `v`, these get the same responses. The
commands of voice `v` by themselves must all be specified (`allSpecified`): none falls under U1 to U4. -/
def Obligations.InterleavingDoesNotReachAVoice : Prop :=
  ∀ (v : Byte) (is : List Instr) (s : State), allSpecified (is.filter (touches v)) s →
    voiceResponses v is s = voiceResponses v (is.filter (touches v)) s

/-- Two voices fed the same inputs give the same responses and end in the same state (R185), also two voices of different
machines. -/
def Obligations.VoicesWithTheSameStateAgree : Prop :=
  ∀ (v w : Byte) (a b : Word) (s s' t t' : State),
    s.voices[v.toNat]? = s'.voices[w.toNat]? → unspecifiedOn (.genNoise v a b) s = false →
    exec (.genNoise v a b) s = .next t → exec (.genNoise w a b) s' = .next t' →
    t.response = t'.response ∧ t.voices[v.toNat]? = t'.voices[w.toNat]?

/-- The three words of a voice that is not active cannot be observed (R31): states that differ only there go, by any step
and with any one choice of the free words, to states that differ at most there and show the same response. -/
def Obligations.InactiveVoiceWordsAreUnobservable : Prop :=
  ∀ s s' t t' : State, sameVisible s s' → step s = .next t → step s' = .next t' → sameVisible t t'
end

