-- ==== Sys2Proof/Laws/Decode.lean ====
section
/-! SUPPORT. The fields of a command word built from its fields, and the opcode map read backwards (R71, R74). -/

namespace Sys2Proof

variable (code sel voice : Byte)

@[simp] theorem cmdOpcode_cmdWord : cmdOpcode (cmdWord code sel voice) = code := by
  apply BitVec.eq_of_getLsbD_eq
  intro i hi
  have h₁ : i < 16 := by omega
  simp [cmdOpcode, cmdWord, hi, h₁, show i < 32 by omega]

@[simp] theorem cmdSel_cmdWord : cmdSel (cmdWord code sel voice) = sel := by
  apply BitVec.eq_of_getLsbD_eq
  intro i hi
  have h₁ : 8 + i < 16 := by omega
  simp [cmdSel, cmdWord, hi, h₁, show 8 + i < 32 by omega]

@[simp] theorem cmdVoice_cmdWord : cmdVoice (cmdWord code sel voice) = voice := by
  apply BitVec.eq_of_getLsbD_eq
  intro i hi
  simp [cmdVoice, cmdWord, hi, show 16 + i < 32 by omega, show ¬ 16 + i < 8 by omega,
    BitVec.getLsbD_of_ge sel (16 + i - 8) (by omega), BitVec.getLsbD_of_ge code (16 + i) (by omega)]

@[simp] theorem cmdRsv_cmdWord : cmdRsv (cmdWord code sel voice) = 0 := by
  apply BitVec.eq_of_getLsbD_eq
  intro i hi
  simp [cmdRsv, cmdWord, BitVec.getLsbD_of_ge voice (24 + i - 16) (by omega),
    BitVec.getLsbD_of_ge sel (24 + i - 8) (by omega), BitVec.getLsbD_of_ge code (24 + i) (by omega)]

/-- Each operation is found by its own opcode (R74). -/
@[simp] theorem opOfCode_code (op : Op) : opOfCode op.code = some op := by
  cases op <;> rfl

/-- An operation found by an opcode has that opcode (R74). -/
theorem code_of_opOfCode {op : Op} {code : Byte} (h : opOfCode code = some op) : op.code = code := by
  have h' := List.find?_some h
  simpa using h'

/-- All that decoding an accepted word can be (R78): no reserved field is set, and the instruction is that of the opcode. -/
theorem decode_eq_ok_iff {p : Packet} {i : Instr} :
    decode p = .ok i ↔ cmdRsv p.cmd = 0 ∧ ∃ op, opOfCode (cmdOpcode p.cmd) = some op ∧
      (op.format ≠ .G → cmdSel p.cmd = 0) ∧ (op.format ≠ .G → op.format ≠ .V → cmdVoice p.cmd = 0) ∧
      i = instrOf op p := by
  unfold decode
  by_cases h₁ : cmdRsv p.cmd = 0
  · simp only [h₁, ne_eq, not_true, if_false, true_and]
    cases h₂ : opOfCode (cmdOpcode p.cmd) with
    | none => simp
    | some op =>
      simp only [Option.some.injEq, exists_eq_left']
      by_cases h₃ : ¬op.format = .G ∧ ¬cmdSel p.cmd = 0
      · simp only [h₃, not_false_eq_true, and_self, if_true, forall_const, false_and, reduceCtorEq]
      · by_cases h₄ : ¬op.format = .G ∧ ¬op.format = .V ∧ ¬cmdVoice p.cmd = 0
        · rw [if_neg h₃, if_pos h₄]
          simp [h₄.1, h₄.2.1, show cmdVoice p.cmd ≠ 0#8 from h₄.2.2]
        · simp only [if_neg h₃, if_neg h₄, Except.ok.injEq]
          constructor
          · rintro rfl
            exact ⟨fun h => by tauto, fun h h' => by tauto, rfl⟩
          · rintro ⟨_, _, rfl⟩
            rfl
  · rw [if_pos h₁]
    simp [show cmdRsv p.cmd ≠ 0#8 from h₁]

/-- A word with no reserved field set decodes to the instruction of its opcode (R78). -/
theorem decode_of_fields {p : Packet} (op : Op) (h₁ : cmdRsv p.cmd = 0)
    (h₂ : opOfCode (cmdOpcode p.cmd) = some op) (h₃ : op.format ≠ .G → cmdSel p.cmd = 0)
    (h₄ : op.format ≠ .G → op.format ≠ .V → cmdVoice p.cmd = 0) : decode p = .ok (instrOf op p) :=
  decode_eq_ok_iff.mpr ⟨h₁, op, h₂, h₃, h₄, rfl⟩

/-- GEN's word decodes to its instrument (R170). -/
theorem decode_gen (a b c : Word) :
    decode ⟨cmdWord 0x30 sel voice, a, b, c⟩ = .ok (genOf sel voice a b) := by
  have h := decode_of_fields (p := ⟨cmdWord 0x30 sel voice, a, b, c⟩) .GEN (cmdRsv_cmdWord ..)
    (by rw [cmdOpcode_cmdWord]; exact opOfCode_code .GEN) (absurd rfl) (fun h => absurd rfl h)
  simpa only [instrOf, cmdSel_cmdWord, cmdVoice_cmdWord] using h

/-- VSTART's word (R186). -/
theorem decode_vstart (a b c : Word) : decode ⟨cmdWord 0x31 0 voice, a, b, c⟩ = .ok (.vstart voice) := by
  have h := decode_of_fields (p := ⟨cmdWord 0x31 0 voice, a, b, c⟩) .VSTART (cmdRsv_cmdWord ..)
    (by rw [cmdOpcode_cmdWord]; exact opOfCode_code .VSTART) (fun _ => cmdSel_cmdWord ..)
    (fun _ h => absurd rfl h)
  simpa only [instrOf, cmdVoice_cmdWord] using h

/-- VSTOP's word (R187). -/
theorem decode_vstop (a b c : Word) : decode ⟨cmdWord 0x32 0 voice, a, b, c⟩ = .ok (.vstop voice) := by
  have h := decode_of_fields (p := ⟨cmdWord 0x32 0 voice, a, b, c⟩) .VSTOP (cmdRsv_cmdWord ..)
    (by rw [cmdOpcode_cmdWord]; exact opOfCode_code .VSTOP) (fun _ => cmdSel_cmdWord ..)
    (fun _ h => absurd rfl h)
  simpa only [instrOf, cmdVoice_cmdWord] using h

end Sys2Proof
end

