-- ==== Sys2Proof/Laws/State.lean ====
section
/-! SUPPORT. The state record under each shared operation: one lemma per field per update, and one lemma per operation
that is not a plain update. Later proofs cite these and unfold no record update. -/

namespace Sys2Proof.Machine.State

variable (s : State) (y : Word) (v : Byte) (x : Voice) (p : Packet) (site : Config.FreeSite) (a b : Word)

@[simp] theorem respond_initDone : (s.respond y).initDone = s.initDone := rfl
@[simp] theorem respond_voices : (s.respond y).voices = s.voices := rfl
@[simp] theorem respond_response : (s.respond y).response = some y := rfl
@[simp] theorem respond_inbox : (s.respond y).inbox = s.inbox := rfl
@[simp] theorem respond_draws : (s.respond y).draws = s.draws := rfl

@[simp] theorem markInit_initDone : s.markInit.initDone = true := rfl
@[simp] theorem markInit_voices : s.markInit.voices = s.voices := rfl
@[simp] theorem markInit_response : s.markInit.response = s.response := rfl
@[simp] theorem markInit_inbox : s.markInit.inbox = s.inbox := rfl
@[simp] theorem markInit_draws : s.markInit.draws = s.draws := rfl

@[simp] theorem respondInit_initDone : (s.respondInit y).initDone = true := rfl
@[simp] theorem respondInit_voices : (s.respondInit y).voices = s.voices := rfl
@[simp] theorem respondInit_response : (s.respondInit y).response = some y := rfl
@[simp] theorem respondInit_inbox : (s.respondInit y).inbox = s.inbox := rfl
@[simp] theorem respondInit_draws : (s.respondInit y).draws = s.draws := rfl

@[simp] theorem setVoice_initDone : (s.setVoice v x).initDone = s.initDone := rfl
@[simp] theorem setVoice_voices : (s.setVoice v x).voices = s.voices.set v.toNat x := rfl
@[simp] theorem setVoice_response : (s.setVoice v x).response = s.response := rfl
@[simp] theorem setVoice_inbox : (s.setVoice v x).inbox = s.inbox := rfl
@[simp] theorem setVoice_draws : (s.setVoice v x).draws = s.draws := rfl

@[simp] theorem startVoice_initDone : (s.startVoice v).initDone = s.initDone := rfl
@[simp] theorem startVoice_voices : (s.startVoice v).voices = s.voices.set v.toNat Voice.started := rfl
@[simp] theorem startVoice_response : (s.startVoice v).response = s.response := rfl
@[simp] theorem startVoice_inbox : (s.startVoice v).inbox = s.inbox := rfl
@[simp] theorem startVoice_draws : (s.startVoice v).draws = s.draws := rfl

@[simp] theorem drawn_initDone : s.drawn.initDone = s.initDone := rfl
@[simp] theorem drawn_voices : s.drawn.voices = s.voices := rfl
@[simp] theorem drawn_response : s.drawn.response = s.response := rfl
@[simp] theorem drawn_inbox : s.drawn.inbox = s.inbox := rfl
@[simp] theorem drawn_draws : s.drawn.draws = s.draws + 1 := rfl

@[simp] theorem respondFree_initDone : (s.respondFree site a b).initDone = s.initDone := rfl
@[simp] theorem respondFree_voices : (s.respondFree site a b).voices = s.voices := rfl
@[simp] theorem respondFree_response :
    (s.respondFree site a b).response = some (s.freeWord site a b) := rfl
@[simp] theorem respondFree_inbox : (s.respondFree site a b).inbox = s.inbox := rfl
@[simp] theorem respondFree_draws : (s.respondFree site a b).draws = s.draws + 1 := rfl

@[simp] theorem idle_initDone : s.idle.initDone = s.initDone := rfl
@[simp] theorem idle_voices : s.idle.voices = s.voices := rfl
@[simp] theorem idle_response : s.idle.response = none := rfl
@[simp] theorem idle_inbox : s.idle.inbox = s.inbox := rfl
@[simp] theorem idle_draws : s.idle.draws = s.draws := rfl

@[simp] theorem presentNext_initDone : (s.presentNext p).initDone = s.initDone := rfl
@[simp] theorem presentNext_voices : (s.presentNext p).voices = s.voices := rfl
@[simp] theorem presentNext_response : (s.presentNext p).response = s.response := rfl
@[simp] theorem presentNext_inbox : (s.presentNext p).inbox = .command p :: s.inbox := rfl
@[simp] theorem presentNext_draws : (s.presentNext p).draws = s.draws := rfl

/-- A voice read depends on the voice file alone. -/
theorem voiceAt_eq : s.voiceAt v = s.voices[v.toNat]? := rfl

@[simp] theorem voiceAt_markInit : s.markInit.voiceAt v = s.voiceAt v := rfl

/-- Voice `v` is selected exactly when `v < NVOICE` (R76). -/
theorem voiceAt_eq_none_iff : s.voiceAt v = none ↔ s.voices.length ≤ v.toNat := by
  simp [voiceAt]

/-- Reading the voice just written (R24). -/
theorem voiceAt_setVoice_self (h : v.toNat < s.voices.length) :
    (s.setVoice v x).voiceAt v = some x := by
  simp [voiceAt, h]

/-- A voice write leaves every other voice as it was (R25). -/
theorem voices_setVoice_other (u : Nat) (h : u ≠ v.toNat) :
    (s.setVoice v x).voices[u]? = s.voices[u]? := by
  simp [List.getElem?_set_ne (Ne.symm h)]

@[simp] theorem setVoice_length : (s.setVoice v x).voices.length = s.voices.length := by
  simp

/-- All that VSTOP's state change can be (R187): nothing, or `ACTIVE <- 0` in one existing voice. -/
theorem stopVoice_cases :
    (s.voiceAt v = none ∧ s.stopVoice v = s) ∨
      ∃ z, s.voiceAt v = some z ∧ s.stopVoice v = s.setVoice v { z with active := false } := by
  unfold stopVoice
  split
  · exact .inl ⟨by assumption, rfl⟩
  · exact .inr ⟨_, by assumption, rfl⟩

@[simp] theorem stopVoice_initDone : (s.stopVoice v).initDone = s.initDone := by
  rcases stopVoice_cases s v with ⟨_, h⟩ | ⟨_, _, h⟩ <;> simp [h]
@[simp] theorem stopVoice_inbox : (s.stopVoice v).inbox = s.inbox := by
  rcases stopVoice_cases s v with ⟨_, h⟩ | ⟨_, _, h⟩ <;> simp [h]
@[simp] theorem stopVoice_draws : (s.stopVoice v).draws = s.draws := by
  rcases stopVoice_cases s v with ⟨_, h⟩ | ⟨_, _, h⟩ <;> simp [h]
@[simp] theorem stopVoice_response : (s.stopVoice v).response = s.response := by
  rcases stopVoice_cases s v with ⟨_, h⟩ | ⟨_, _, h⟩ <;> simp [h]
@[simp] theorem stopVoice_length : (s.stopVoice v).voices.length = s.voices.length := by
  rcases stopVoice_cases s v with ⟨_, h⟩ | ⟨_, _, h⟩ <;> simp [h]

@[simp] theorem hostReset_initDone (cut : Option Packet) : (s.hostReset cut).initDone = false := by
  cases cut <;> rfl
@[simp] theorem hostReset_voices (cut : Option Packet) :
    (s.hostReset cut).voices = List.replicate s.voices.length Voice.reset := by
  cases cut <;> rfl
@[simp] theorem hostReset_inbox (cut : Option Packet) : (s.hostReset cut).inbox = s.inbox := by
  cases cut <;> rfl
@[simp] theorem hostReset_response_none : (s.hostReset none).response = none := rfl
@[simp] theorem hostReset_response_some :
    (s.hostReset (some p)).response = Config.cutResponse s.draws p.cmd p.a p.b p.c := rfl
@[simp] theorem hostReset_draws_none : (s.hostReset none).draws = s.draws := rfl
@[simp] theorem hostReset_draws_some : (s.hostReset (some p)).draws = s.draws + 1 := rfl

/-- All that taking the next input can be (R13): nothing is presented, or the first input leaves the inbox and the rest
of the state stays. -/
theorem takeInput_cases :
    (s.inbox = [] ∧ s.takeInput = none) ∨
      ∃ i rest, s.inbox = i :: rest ∧ s.takeInput = some (i, { s with inbox := rest }) := by
  unfold takeInput
  split
  · exact .inl ⟨by assumption, rfl⟩
  · exact .inr ⟨_, _, by assumption, rfl⟩

@[simp] theorem takeInput_presentNext : (s.presentNext p).takeInput = some (.command p, s) := rfl

end Sys2Proof.Machine.State
end

