-- ==== Sys2Proof/Laws/Exec.lean ====
section
/-! SUPPORT. `exec` on each instruction, unfolded once, and what the meanings with a case split can do. -/

namespace Sys2Proof.Machine

variable (s : State) (a b c : Word) (voice sel : Byte)

@[simp] theorem exec_init : exec .init s = .next (s.markInit.respond 0) := rfl
@[simp] theorem exec_stat : exec .stat s = .next (s.respond (statusWord s)) := rfl
@[simp] theorem exec_add : exec (.add a b) s = .next (s.respond (addVal a b)) := rfl
@[simp] theorem exec_sub : exec (.sub a b) s = .next (s.respond (subVal a b)) := rfl
@[simp] theorem exec_mul : exec (.mul a b) s = .next (s.respond (mulVal a b)) := rfl
@[simp] theorem exec_lerp : exec (.lerp a b c) s = .next (s.respond (lerpVal a b c)) := rfl
@[simp] theorem exec_itox : exec (.itox a) s = .next (s.respond (itoxVal a)) := rfl
@[simp] theorem exec_xtoi : exec (.xtoi a) s = .next (s.respond (xtoiVal a)) := rfl
@[simp] theorem exec_xtof : exec (.xtof a) s = .next (s.respond (xtofVal a)) := rfl
@[simp] theorem exec_frac : exec (.frac a) s = .next (s.respondInit (fracVal a)) := rfl
@[simp] theorem exec_fabs : exec (.fabs a) s = .next (s.respondInit (fabsVal a)) := rfl
@[simp] theorem exec_sin : exec (.sin a) s = .next (s.respondInit (sinVal a)) := rfl
@[simp] theorem exec_div7 : exec (.div7 a) s = .next (s.respondInit (div7Val a)) := rfl
@[simp] theorem exec_div183 : exec (.div183 a) s = .next (s.respondInit (div183Val a)) := rfl
@[simp] theorem exec_freq : exec (.freq a) s = .next (s.respondInit (freqVal a)) := rfl
@[simp] theorem exec_floor : exec (.floor a) s = .next (s.respondInit (floorVal a)) := rfl
@[simp] theorem exec_muli : exec (.muli a b) s = .next (s.respondInit (muliVal a b)) := rfl
@[simp] theorem exec_min : exec (.min a b) s = .next (s.respondInit (minVal a b)) := rfl
@[simp] theorem exec_max : exec (.max a b) s = .next (s.respondInit (maxVal a b)) := rfl
@[simp] theorem exec_clamp : exec (.clamp a b c) s = .next (s.respondInit (clampVal a b c)) := rfl
@[simp] theorem exec_genTriangle :
    exec (.genTriangle voice a) s = .next (s.respondInit (triangleVal (fracVal a))) := rfl
@[simp] theorem exec_genTiltedSaw :
    exec (.genTiltedSaw voice a) s = .next (s.respondInit (tiltedSawVal (fracVal a))) := rfl
@[simp] theorem exec_genSaw : exec (.genSaw voice a) s = .next (s.respondInit (sawVal (fracVal a))) := rfl
@[simp] theorem exec_genSquare :
    exec (.genSquare voice a) s = .next (s.respondInit (squareVal (fracVal a))) := rfl
@[simp] theorem exec_genPulse : exec (.genPulse voice a) s = .next (s.respondInit (pulseVal (fracVal a))) := rfl
@[simp] theorem exec_genOrgan : exec (.genOrgan voice a) s = .next (s.respondInit (organVal (fracVal a))) := rfl
@[simp] theorem exec_genPhaser :
    exec (.genPhaser voice a) s = .next (s.respondInit (phaserVal a (fracVal a))) := rfl
@[simp] theorem exec_genUnk8 : exec (.genUnk8 sel voice) s = .next (s.respondInit 0) := rfl
@[simp] theorem exec_genUnk16 : exec (.genUnk16 sel voice) s = .next (s.respondInit 0) := rfl
@[simp] theorem exec_genUnk32 : exec (.genUnk32 sel voice) s = .next (s.respondInit 0) := rfl
@[simp] theorem exec_genUnk64 : exec (.genUnk64 sel voice) s = .next (s.respondInit 0) := rfl
@[simp] theorem exec_genUnk128 : exec (.genUnk128 sel voice) s = .next (s.respondInit 0) := rfl
@[simp] theorem exec_vstart : exec (.vstart voice) s = .next ((s.startVoice voice).respond 0) := rfl
@[simp] theorem exec_vstop : exec (.vstop voice) s = .next ((s.stopVoice voice).respond 0) := rfl

/-- DIV by zero (R104, U1). -/
theorem exec_div_zero (h : S b = 0) : exec (.div a b) s = .next (s.respondFree .div a b) := if_pos h

/-- DIV by a divisor that is not 0 (R104). -/
theorem exec_div_nonzero (h : S b ≠ 0) : exec (.div a b) s = .next (s.respond (divVal a b)) := if_neg h

/-- DIVI by zero (R150, U2). -/
theorem exec_divi_zero (h : S b = 0) :
    exec (.divi a b) s = .next (s.markInit.respondFree .divi a b) := if_pos h

/-- DIVI by a divisor that is not 0 (R150). -/
theorem exec_divi_nonzero (h : S b ≠ 0) :
    exec (.divi a b) s = .next (s.respondInit (diviVal a b)) := if_neg h

/-- FTOX of a float that does not fit (R108, U3). -/
theorem exec_ftox_none (h : ftoxVal a = none) :
    exec (.ftox a) s = .next (s.respondFree .ftox a 0) := by
  simp only [exec, execFtox, h]

/-- FTOX of a float that fits (R108). -/
theorem exec_ftox_some {y : Word} (h : ftoxVal a = some y) :
    exec (.ftox a) s = .next (s.respond y) := by
  simp only [exec, execFtox, h]

/-- GEN NOISE with no such voice (R184). -/
theorem exec_genNoise_missing (h : s.voiceAt voice = none) :
    exec (.genNoise voice a b) s = .next (s.respondInit 0) := by
  simp only [exec, execGenNoise, h]

/-- GEN NOISE with `1 + scale = 0` (R184, U4). -/
theorem exec_genNoise_open {x : Voice} (h : s.voiceAt voice = some x)
    (hd : noiseDen (noiseVoice x) a = 0) :
    exec (.genNoise voice a b) s =
      .next ((s.markInit.setVoice voice
        (noiseAfter (noiseVoice x) a (s.freeWord .noiseSample a b))).drawn.respondFree
          .noiseResponse a b) := by
  simp only [exec, execGenNoise, h, hd, if_true]

/-- GEN NOISE (R184). -/
theorem exec_genNoise {x : Voice} (h : s.voiceAt voice = some x)
    (hd : noiseDen (noiseVoice x) a ≠ 0) :
    exec (.genNoise voice a b) s =
      .next ((s.setVoice voice (noiseAfter (noiseVoice x) a (noiseSample (noiseVoice x) a b))).respondInit
        (noiseOut (noiseVoice x).sample (noiseSample (noiseVoice x) a b)
          (noiseScale (noiseVoice x) a))) := by
  simp only [exec, execGenNoise, h, hd, if_false]

end Sys2Proof.Machine
end

