-- ==== Sys2Proof/Laws/Operands.lean ====
section
/-! SUPPORT. The signed reading of a word and the narrowing of an integer (R7, R8). -/

namespace Sys2Proof.Machine

/-- The signed reading of a word lies in `[-2^31, 2^31 - 1]` (R7). -/
theorem S_range (w : Word) : -2147483648 ≤ S w ∧ S w ≤ 2147483647 := by
  have h₁ := BitVec.le_toInt w
  have h₂ := BitVec.toInt_lt (x := w)
  norm_num at h₁ h₂
  exact ⟨h₁, by unfold S; omega⟩

/-- Words with the same signed reading are equal. -/
theorem S_injective {v w : Word} (h : S v = S w) : v = w := BitVec.eq_of_toInt_eq h

/-- `wrap32(n)` is in `[-2^31, 2^31 - 1]` (R8). -/
theorem wrap32_range (n : Int) : -2147483648 ≤ wrap32 n ∧ wrap32 n ≤ 2147483647 := by
  unfold wrap32; omega

/-- `wrap32(n) ≡ n (mod 2^32)` (R8). -/
theorem wrap32_congr (n : Int) : wrap32 n % 4294967296 = n % 4294967296 := by
  unfold wrap32; omega

/-- `wrap32(n)` is the only integer in `[-2^31, 2^31 - 1]` congruent to `n` (R8). -/
theorem wrap32_unique {n r : Int} (h₁ : -2147483648 ≤ r) (h₂ : r ≤ 2147483647)
    (h : r % 4294967296 = n % 4294967296) : r = wrap32 n := by
  unfold wrap32; omega

/-- Narrowing keeps an integer that fits (R8). -/
theorem wrap32_of_fits {n : Int} (h₁ : -2147483648 ≤ n) (h₂ : n ≤ 2147483647) : wrap32 n = n := by
  unfold wrap32; omega

/-- The signed reading of a narrowed integer (R8). -/
@[simp] theorem S_narrow (n : Int) : S (narrow n) = wrap32 n := by
  simp only [S, narrow, BitVec.toInt_ofInt, Int.bmod, wrap32]
  norm_num
  split <;> omega

/-- The signed reading of a narrowed integer that fits. -/
theorem S_narrow_of_fits {n : Int} (h₁ : -2147483648 ≤ n) (h₂ : n ≤ 2147483647) :
    S (narrow n) = n := by
  rw [S_narrow, wrap32_of_fits h₁ h₂]

/-- Writing the signed reading of a word back gives the word. -/
@[simp] theorem narrow_S (w : Word) : narrow (S w) = w := BitVec.ofInt_toInt

/-- The arithmetic right shift by 16 is the floor of a division by 65536 (R9). -/
theorem sra_16 (n : Int) : sra n 16 = n / 65536 := by
  simp [sra, fdiv]

theorem S_ONE : S ONE = 65536 := by decide
theorem S_K_HALF : S K_HALF = 32768 := by decide
theorem S_K_QUARTER : S K_QUARTER = 16384 := by decide
theorem S_K_THIRD : S K_THIRD = 21845 := by decide
theorem S_K_A : S K_A = 58982 := by decide
theorem S_K_SAW : S K_SAW = 42795 := by decide
theorem S_K_INV128 : S K_INV128 = 512 := by decide
theorem S_K_TSCALE : S K_TSCALE = 7397 := by decide
theorem S_K_43 : S K_43 = 87381 := by decide
theorem S_K_175 : S K_175 = 114688 := by decide
theorem S_K_02 : S K_02 = 13107 := by decide

end Sys2Proof.Machine
end

