-- ==== Sys2Proof/Laws/PerInstr.lean ====
section
/-! SUPPORT. Facts about every instruction as syntax, one lemma per constructor. Family `EncodedFields`: the four
fields of the encoded command word (R71), and the fields a format does not use are 0 (R72, R77). -/

/-- The encoded command word has `rsv = 0` and the fields of the instruction, and a field its format does not use is 0. -/
def Sys2Proof.Laws.EncodedFields.Statement (i : Sys2Proof.Instr) : Prop :=
  Sys2Proof.cmdRsv (Sys2Proof.encode i).cmd = 0 ∧ Sys2Proof.cmdOpcode (Sys2Proof.encode i).cmd = i.op.code ∧
    Sys2Proof.cmdSel (Sys2Proof.encode i).cmd = i.sel ∧ Sys2Proof.cmdVoice (Sys2Proof.encode i).cmd = i.voice ∧
    (i.op.format ≠ .G → i.sel = 0) ∧ (i.op.format ≠ .G ∧ i.op.format ≠ .V → i.voice = 0)

/-- The fields of the encoded word, for any instruction. -/
theorem Sys2Proof.Laws.encodedFields_of (i : Sys2Proof.Instr) (h : i.op.format ≠ .G → i.sel = 0)
    (h' : i.op.format ≠ .G ∧ i.op.format ≠ .V → i.voice = 0) :
    Sys2Proof.Laws.EncodedFields.Statement i :=
  ⟨Sys2Proof.cmdRsv_cmdWord .., Sys2Proof.cmdOpcode_cmdWord .., Sys2Proof.cmdSel_cmdWord ..,
    Sys2Proof.cmdVoice_cmdWord .., h, h'⟩

theorem Sys2Proof.Laws.EncodedFields.init :
    Sys2Proof.Laws.EncodedFields.Statement .init :=
  Sys2Proof.Laws.encodedFields_of _ (fun _ => rfl) (fun _ => rfl)

theorem Sys2Proof.Laws.EncodedFields.stat :
    Sys2Proof.Laws.EncodedFields.Statement .stat :=
  Sys2Proof.Laws.encodedFields_of _ (fun _ => rfl) (fun _ => rfl)

theorem Sys2Proof.Laws.EncodedFields.add (a b : Sys2Proof.Word) :
    Sys2Proof.Laws.EncodedFields.Statement (.add a b) :=
  Sys2Proof.Laws.encodedFields_of _ (fun _ => rfl) (fun _ => rfl)

theorem Sys2Proof.Laws.EncodedFields.sub (a b : Sys2Proof.Word) :
    Sys2Proof.Laws.EncodedFields.Statement (.sub a b) :=
  Sys2Proof.Laws.encodedFields_of _ (fun _ => rfl) (fun _ => rfl)

theorem Sys2Proof.Laws.EncodedFields.mul (a b : Sys2Proof.Word) :
    Sys2Proof.Laws.EncodedFields.Statement (.mul a b) :=
  Sys2Proof.Laws.encodedFields_of _ (fun _ => rfl) (fun _ => rfl)

theorem Sys2Proof.Laws.EncodedFields.div (a b : Sys2Proof.Word) :
    Sys2Proof.Laws.EncodedFields.Statement (.div a b) :=
  Sys2Proof.Laws.encodedFields_of _ (fun _ => rfl) (fun _ => rfl)

theorem Sys2Proof.Laws.EncodedFields.lerp (a b c : Sys2Proof.Word) :
    Sys2Proof.Laws.EncodedFields.Statement (.lerp a b c) :=
  Sys2Proof.Laws.encodedFields_of _ (fun _ => rfl) (fun _ => rfl)

theorem Sys2Proof.Laws.EncodedFields.itox (a : Sys2Proof.Word) :
    Sys2Proof.Laws.EncodedFields.Statement (.itox a) :=
  Sys2Proof.Laws.encodedFields_of _ (fun _ => rfl) (fun _ => rfl)

theorem Sys2Proof.Laws.EncodedFields.xtoi (a : Sys2Proof.Word) :
    Sys2Proof.Laws.EncodedFields.Statement (.xtoi a) :=
  Sys2Proof.Laws.encodedFields_of _ (fun _ => rfl) (fun _ => rfl)

theorem Sys2Proof.Laws.EncodedFields.ftox (a : Sys2Proof.Word) :
    Sys2Proof.Laws.EncodedFields.Statement (.ftox a) :=
  Sys2Proof.Laws.encodedFields_of _ (fun _ => rfl) (fun _ => rfl)

theorem Sys2Proof.Laws.EncodedFields.xtof (a : Sys2Proof.Word) :
    Sys2Proof.Laws.EncodedFields.Statement (.xtof a) :=
  Sys2Proof.Laws.encodedFields_of _ (fun _ => rfl) (fun _ => rfl)

theorem Sys2Proof.Laws.EncodedFields.frac (a : Sys2Proof.Word) :
    Sys2Proof.Laws.EncodedFields.Statement (.frac a) :=
  Sys2Proof.Laws.encodedFields_of _ (fun _ => rfl) (fun _ => rfl)

theorem Sys2Proof.Laws.EncodedFields.fabs (a : Sys2Proof.Word) :
    Sys2Proof.Laws.EncodedFields.Statement (.fabs a) :=
  Sys2Proof.Laws.encodedFields_of _ (fun _ => rfl) (fun _ => rfl)

theorem Sys2Proof.Laws.EncodedFields.sin (a : Sys2Proof.Word) :
    Sys2Proof.Laws.EncodedFields.Statement (.sin a) :=
  Sys2Proof.Laws.encodedFields_of _ (fun _ => rfl) (fun _ => rfl)

theorem Sys2Proof.Laws.EncodedFields.div7 (a : Sys2Proof.Word) :
    Sys2Proof.Laws.EncodedFields.Statement (.div7 a) :=
  Sys2Proof.Laws.encodedFields_of _ (fun _ => rfl) (fun _ => rfl)

theorem Sys2Proof.Laws.EncodedFields.div183 (a : Sys2Proof.Word) :
    Sys2Proof.Laws.EncodedFields.Statement (.div183 a) :=
  Sys2Proof.Laws.encodedFields_of _ (fun _ => rfl) (fun _ => rfl)

theorem Sys2Proof.Laws.EncodedFields.freq (a : Sys2Proof.Word) :
    Sys2Proof.Laws.EncodedFields.Statement (.freq a) :=
  Sys2Proof.Laws.encodedFields_of _ (fun _ => rfl) (fun _ => rfl)

theorem Sys2Proof.Laws.EncodedFields.floor (a : Sys2Proof.Word) :
    Sys2Proof.Laws.EncodedFields.Statement (.floor a) :=
  Sys2Proof.Laws.encodedFields_of _ (fun _ => rfl) (fun _ => rfl)

theorem Sys2Proof.Laws.EncodedFields.muli (a b : Sys2Proof.Word) :
    Sys2Proof.Laws.EncodedFields.Statement (.muli a b) :=
  Sys2Proof.Laws.encodedFields_of _ (fun _ => rfl) (fun _ => rfl)

theorem Sys2Proof.Laws.EncodedFields.divi (a b : Sys2Proof.Word) :
    Sys2Proof.Laws.EncodedFields.Statement (.divi a b) :=
  Sys2Proof.Laws.encodedFields_of _ (fun _ => rfl) (fun _ => rfl)

theorem Sys2Proof.Laws.EncodedFields.min (a b : Sys2Proof.Word) :
    Sys2Proof.Laws.EncodedFields.Statement (.min a b) :=
  Sys2Proof.Laws.encodedFields_of _ (fun _ => rfl) (fun _ => rfl)

theorem Sys2Proof.Laws.EncodedFields.max (a b : Sys2Proof.Word) :
    Sys2Proof.Laws.EncodedFields.Statement (.max a b) :=
  Sys2Proof.Laws.encodedFields_of _ (fun _ => rfl) (fun _ => rfl)

theorem Sys2Proof.Laws.EncodedFields.clamp (a b c : Sys2Proof.Word) :
    Sys2Proof.Laws.EncodedFields.Statement (.clamp a b c) :=
  Sys2Proof.Laws.encodedFields_of _ (fun _ => rfl) (fun _ => rfl)

theorem Sys2Proof.Laws.EncodedFields.genTriangle (voice : Sys2Proof.Byte) (a : Sys2Proof.Word) :
    Sys2Proof.Laws.EncodedFields.Statement (.genTriangle voice a) :=
  Sys2Proof.Laws.encodedFields_of _ (fun h => absurd rfl h) (fun h => absurd rfl h.1)

theorem Sys2Proof.Laws.EncodedFields.genTiltedSaw (voice : Sys2Proof.Byte) (a : Sys2Proof.Word) :
    Sys2Proof.Laws.EncodedFields.Statement (.genTiltedSaw voice a) :=
  Sys2Proof.Laws.encodedFields_of _ (fun h => absurd rfl h) (fun h => absurd rfl h.1)

theorem Sys2Proof.Laws.EncodedFields.genSaw (voice : Sys2Proof.Byte) (a : Sys2Proof.Word) :
    Sys2Proof.Laws.EncodedFields.Statement (.genSaw voice a) :=
  Sys2Proof.Laws.encodedFields_of _ (fun h => absurd rfl h) (fun h => absurd rfl h.1)

theorem Sys2Proof.Laws.EncodedFields.genSquare (voice : Sys2Proof.Byte) (a : Sys2Proof.Word) :
    Sys2Proof.Laws.EncodedFields.Statement (.genSquare voice a) :=
  Sys2Proof.Laws.encodedFields_of _ (fun h => absurd rfl h) (fun h => absurd rfl h.1)

theorem Sys2Proof.Laws.EncodedFields.genPulse (voice : Sys2Proof.Byte) (a : Sys2Proof.Word) :
    Sys2Proof.Laws.EncodedFields.Statement (.genPulse voice a) :=
  Sys2Proof.Laws.encodedFields_of _ (fun h => absurd rfl h) (fun h => absurd rfl h.1)

theorem Sys2Proof.Laws.EncodedFields.genOrgan (voice : Sys2Proof.Byte) (a : Sys2Proof.Word) :
    Sys2Proof.Laws.EncodedFields.Statement (.genOrgan voice a) :=
  Sys2Proof.Laws.encodedFields_of _ (fun h => absurd rfl h) (fun h => absurd rfl h.1)

theorem Sys2Proof.Laws.EncodedFields.genNoise (voice : Sys2Proof.Byte) (a b : Sys2Proof.Word) :
    Sys2Proof.Laws.EncodedFields.Statement (.genNoise voice a b) :=
  Sys2Proof.Laws.encodedFields_of _ (fun h => absurd rfl h) (fun h => absurd rfl h.1)

theorem Sys2Proof.Laws.EncodedFields.genPhaser (voice : Sys2Proof.Byte) (a : Sys2Proof.Word) :
    Sys2Proof.Laws.EncodedFields.Statement (.genPhaser voice a) :=
  Sys2Proof.Laws.encodedFields_of _ (fun h => absurd rfl h) (fun h => absurd rfl h.1)

theorem Sys2Proof.Laws.EncodedFields.genUnk8 (sel voice : Sys2Proof.Byte) :
    Sys2Proof.Laws.EncodedFields.Statement (.genUnk8 sel voice) :=
  Sys2Proof.Laws.encodedFields_of _ (fun h => absurd rfl h) (fun h => absurd rfl h.1)

theorem Sys2Proof.Laws.EncodedFields.genUnk16 (sel voice : Sys2Proof.Byte) :
    Sys2Proof.Laws.EncodedFields.Statement (.genUnk16 sel voice) :=
  Sys2Proof.Laws.encodedFields_of _ (fun h => absurd rfl h) (fun h => absurd rfl h.1)

theorem Sys2Proof.Laws.EncodedFields.genUnk32 (sel voice : Sys2Proof.Byte) :
    Sys2Proof.Laws.EncodedFields.Statement (.genUnk32 sel voice) :=
  Sys2Proof.Laws.encodedFields_of _ (fun h => absurd rfl h) (fun h => absurd rfl h.1)

theorem Sys2Proof.Laws.EncodedFields.genUnk64 (sel voice : Sys2Proof.Byte) :
    Sys2Proof.Laws.EncodedFields.Statement (.genUnk64 sel voice) :=
  Sys2Proof.Laws.encodedFields_of _ (fun h => absurd rfl h) (fun h => absurd rfl h.1)

theorem Sys2Proof.Laws.EncodedFields.genUnk128 (sel voice : Sys2Proof.Byte) :
    Sys2Proof.Laws.EncodedFields.Statement (.genUnk128 sel voice) :=
  Sys2Proof.Laws.encodedFields_of _ (fun h => absurd rfl h) (fun h => absurd rfl h.1)

theorem Sys2Proof.Laws.EncodedFields.vstart (voice : Sys2Proof.Byte) :
    Sys2Proof.Laws.EncodedFields.Statement (.vstart voice) :=
  Sys2Proof.Laws.encodedFields_of _ (fun _ => rfl) (fun h => absurd rfl h.2)

theorem Sys2Proof.Laws.EncodedFields.vstop (voice : Sys2Proof.Byte) :
    Sys2Proof.Laws.EncodedFields.Statement (.vstop voice) :=
  Sys2Proof.Laws.encodedFields_of _ (fun _ => rfl) (fun h => absurd rfl h.2)
end

