-- ==== Sys2Proof/Laws/Rom.lean ====
section
/-! SUPPORT. The ROM: bank lengths, the read inside a bank, and the integer closed forms of the four rational banks
(R46 to R49). -/

namespace Sys2Proof.Machine

set_option maxRecDepth 20000 in
/-- Each bank holds as many entries as R40 says. -/
theorem entries_length (bank : Bank) : bank.entries.length = bank.size := by
  cases bank <;> rfl

/-- The clamped index names an entry of the bank (R42). -/
theorem clampidx_lt (i : Int) (bank : Bank) : clampidx i bank.size < bank.size := by
  have hpos : 0 < bank.size := by cases bank <;> decide
  unfold clampidx
  split
  · exact hpos
  · split <;> omega

/-- An index inside the bank is not moved (R42). -/
theorem clampidx_of_inside {i : Int} {n : Nat} (h₀ : 0 ≤ i) (h₁ : i < n) : clampidx i n = i.toNat := by
  unfold clampidx
  rw [if_neg (by omega), if_neg (by omega)]

set_option maxRecDepth 20000 in
/-- The closed form of `FMOD_ROM` (R46). -/
theorem fmodRom_closed : ∀ i < 101, fmodRom.getD i 0 = if i = 100 then 0 else 65536 * (i : Int) / 100 := by
  decide

set_option maxRecDepth 20000 in
/-- The closed form of `ABS_ROM` (R47). -/
theorem absRom_closed : ∀ i < 201, absRom.getD i 0 = 65536 * (((i : Int) - 100).natAbs : Int) / 100 := by
  decide

/-- The closed form of `DIV7_ROM` (R48). -/
theorem div7Rom_closed : ∀ i < 8, div7Rom.getD i 0 = 65536 * (i : Int) / 7 := by
  decide

set_option maxRecDepth 20000 in
/-- The closed form of `DIV183_ROM` (R49). -/
theorem div183Rom_closed : ∀ i < 256, div183Rom.getD i 0 = 65536 * (i : Int) / 183 := by
  decide

/-- A read of `FMOD_ROM` at an index of the bank. -/
theorem romRead_fmod {i : Int} (h₀ : 0 ≤ i) (h₁ : i ≤ 100) :
    romRead .FMOD i = if i = 100 then 0 else 65536 * i / 100 := by
  obtain ⟨k, rfl⟩ := Int.eq_ofNat_of_zero_le h₀
  have hk : k < 101 := by omega
  rw [romRead, Bank.size, clampidx_of_inside h₀ (by omega), Int.toNat_natCast, Bank.entries,
    fmodRom_closed k hk]
  norm_cast

/-- A read of `ABS_ROM` at an index of the bank. -/
theorem romRead_abs {i : Int} (h₀ : 0 ≤ i) (h₁ : i ≤ 200) :
    romRead .ABS i = 65536 * ((i - 100).natAbs : Int) / 100 := by
  obtain ⟨k, rfl⟩ := Int.eq_ofNat_of_zero_le h₀
  rw [romRead, Bank.size, clampidx_of_inside h₀ (by omega), Int.toNat_natCast, Bank.entries,
    absRom_closed k (by omega)]

/-- A read of `DIV7_ROM` at an index of the bank. -/
theorem romRead_div7 {i : Int} (h₀ : 0 ≤ i) (h₁ : i ≤ 7) : romRead .DIV7 i = 65536 * i / 7 := by
  obtain ⟨k, rfl⟩ := Int.eq_ofNat_of_zero_le h₀
  rw [romRead, Bank.size, clampidx_of_inside h₀ (by omega), Int.toNat_natCast, Bank.entries,
    div7Rom_closed k (by omega)]

/-- A read of `DIV183_ROM` at an index of the bank. -/
theorem romRead_div183 {i : Int} (h₀ : 0 ≤ i) (h₁ : i ≤ 255) : romRead .DIV183 i = 65536 * i / 183 := by
  obtain ⟨k, rfl⟩ := Int.eq_ofNat_of_zero_le h₀
  rw [romRead, Bank.size, clampidx_of_inside h₀ (by omega), Int.toNat_natCast, Bank.entries,
    div183Rom_closed k (by omega)]

end Sys2Proof.Machine
end

