-- ==== Sys2Proof/Tests/Slice0.lean ====
section
/-! SUPPORT. The model's own tests: the well-formedness smoke, command words written out from R71, R74 and R75, single
steps with the results spec/95_test_vectors.md and spec/96_test_vectors_facade_synth.md give, and, for each statement
with hypotheses, a concrete state and operands that meet them at the ends of their ranges. -/

namespace Sys2Proof.Tests

open Sys2Proof.Machine

/-! ### Well-formedness: one ill-formed term for each check (R75) -/

theorem test_wf_refuses_genUnk8 :
    (Instr.genUnk8 7 0).wellFormed = false ∧ (Instr.genUnk8 16 0).wellFormed = false := by decide
theorem test_wf_refuses_genUnk16 :
    (Instr.genUnk16 15 0).wellFormed = false ∧ (Instr.genUnk16 32 0).wellFormed = false := by decide
theorem test_wf_refuses_genUnk32 :
    (Instr.genUnk32 31 0).wellFormed = false ∧ (Instr.genUnk32 64 0).wellFormed = false := by decide
theorem test_wf_refuses_genUnk64 :
    (Instr.genUnk64 63 0).wellFormed = false ∧ (Instr.genUnk64 128 0).wellFormed = false := by decide
theorem test_wf_refuses_genUnk128 : (Instr.genUnk128 127 0).wellFormed = false := by decide
theorem test_wf_accepts :
    (Instr.genUnk8 15 9).wellFormed = true ∧ (Instr.genUnk128 255 0).wellFormed = true ∧
      (Instr.add 1 2).wellFormed = true := by decide

/-! ### Decoding: every constructor's word, written out from R71, R74 and R75 -/

theorem test_decode_bank :
    decode ⟨0x00000000, 1, 2, 3⟩ = .ok .init ∧ decode ⟨0x00000001, 1, 2, 3⟩ = .ok .stat := ⟨rfl, rfl⟩
theorem test_decode_core :
    decode ⟨0x00000010, 1, 2, 3⟩ = .ok (.add 1 2) ∧ decode ⟨0x00000011, 1, 2, 3⟩ = .ok (.sub 1 2) ∧
    decode ⟨0x00000012, 1, 2, 3⟩ = .ok (.mul 1 2) ∧ decode ⟨0x00000013, 1, 2, 3⟩ = .ok (.div 1 2) ∧
    decode ⟨0x00000014, 1, 2, 3⟩ = .ok (.lerp 1 2 3) ∧ decode ⟨0x00000015, 1, 2, 3⟩ = .ok (.itox 1) ∧
    decode ⟨0x00000016, 1, 2, 3⟩ = .ok (.xtoi 1) ∧ decode ⟨0x00000017, 1, 2, 3⟩ = .ok (.ftox 1) ∧
    decode ⟨0x00000018, 1, 2, 3⟩ = .ok (.xtof 1) := ⟨rfl, rfl, rfl, rfl, rfl, rfl, rfl, rfl, rfl⟩
theorem test_decode_facade :
    decode ⟨0x00000020, 1, 2, 3⟩ = .ok (.frac 1) ∧ decode ⟨0x00000021, 1, 2, 3⟩ = .ok (.fabs 1) ∧
    decode ⟨0x00000022, 1, 2, 3⟩ = .ok (.sin 1) ∧ decode ⟨0x00000023, 1, 2, 3⟩ = .ok (.div7 1) ∧
    decode ⟨0x00000024, 1, 2, 3⟩ = .ok (.div183 1) ∧ decode ⟨0x00000025, 1, 2, 3⟩ = .ok (.freq 1) ∧
    decode ⟨0x00000026, 1, 2, 3⟩ = .ok (.floor 1) ∧ decode ⟨0x00000027, 1, 2, 3⟩ = .ok (.muli 1 2) ∧
    decode ⟨0x00000028, 1, 2, 3⟩ = .ok (.divi 1 2) ∧ decode ⟨0x00000029, 1, 2, 3⟩ = .ok (.min 1 2) ∧
    decode ⟨0x0000002A, 1, 2, 3⟩ = .ok (.max 1 2) ∧ decode ⟨0x0000002B, 1, 2, 3⟩ = .ok (.clamp 1 2 3) :=
  ⟨rfl, rfl, rfl, rfl, rfl, rfl, rfl, rfl, rfl, rfl, rfl, rfl⟩
theorem test_decode_gen :
    decode ⟨0x00030030, 1, 2, 3⟩ = .ok (.genTriangle 3 1) ∧
    decode ⟨0x00030130, 1, 2, 3⟩ = .ok (.genTiltedSaw 3 1) ∧
    decode ⟨0x00030230, 1, 2, 3⟩ = .ok (.genSaw 3 1) ∧ decode ⟨0x00FF0330, 1, 2, 3⟩ = .ok (.genSquare 0xFF 1) ∧
    decode ⟨0x00030430, 1, 2, 3⟩ = .ok (.genPulse 3 1) ∧ decode ⟨0x00030530, 1, 2, 3⟩ = .ok (.genOrgan 3 1) ∧
    decode ⟨0x00030630, 1, 2, 3⟩ = .ok (.genNoise 3 1 2) ∧
    decode ⟨0x00030730, 1, 2, 3⟩ = .ok (.genPhaser 3 1) := ⟨rfl, rfl, rfl, rfl, rfl, rfl, rfl, rfl⟩
theorem test_decode_unknown_instruments :
    decode ⟨0x00000830, 1, 2, 3⟩ = .ok (.genUnk8 8 0) ∧ decode ⟨0x00040F30, 1, 2, 3⟩ = .ok (.genUnk8 15 4) ∧
    decode ⟨0x00001030, 1, 2, 3⟩ = .ok (.genUnk16 16 0) ∧ decode ⟨0x00003F30, 1, 2, 3⟩ = .ok (.genUnk32 63 0) ∧
    decode ⟨0x00004030, 1, 2, 3⟩ = .ok (.genUnk64 64 0) ∧
    decode ⟨0x0003FF30, 1, 2, 3⟩ = .ok (.genUnk128 255 3) := ⟨rfl, rfl, rfl, rfl, rfl, rfl⟩
theorem test_decode_voices :
    decode ⟨0x00030031, 1, 2, 3⟩ = .ok (.vstart 3) ∧ decode ⟨0x00C80032, 1, 2, 3⟩ = .ok (.vstop 0xC8) :=
  ⟨rfl, rfl⟩
/-- R77 (a) to (d), and the order of R78. -/
theorem test_decode_reserved :
    decode ⟨0x01000330, 1, 2, 3⟩ = .error .rsvNotZero ∧ decode ⟨0x0000002C, 1, 2, 3⟩ = .error .unknownOpcode ∧
    decode ⟨0x00000131, 1, 2, 3⟩ = .error .selNotZero ∧ decode ⟨0x00010012, 1, 2, 3⟩ = .error .voiceNotZero ∧
    decode ⟨0xFFFFFFFF, 1, 2, 3⟩ = .error .rsvNotZero := ⟨rfl, rfl, rfl, rfl, rfl⟩
theorem test_encode_words :
    encode (.genNoise 2 5 6) = ⟨0x00020630, 5, 6, 0⟩ ∧ encode (.clamp 1 2 3) = ⟨0x0000002B, 1, 2, 3⟩ ∧
    encode (.genUnk128 200 0) = ⟨0x0000C830, 0, 0, 0⟩ ∧ encode (.vstop 9) = ⟨0x00090032, 0, 0, 0⟩ := by decide
/-- The second word of the 128-bit numbering is operand `a` (R70). -/
theorem test_packetOfBits :
    packetOfBits 32 0x1_00000010 = ⟨0x10, 0, 0, 0⟩ ∧
    packetOfBits 128 0x4_00000003_00000002_0000002B = ⟨0x2B, 2, 3, 4⟩ ∧
    decodeTableWord 32 0x00000330 = some (.genSquare 0 0) ∧ decodeTableWord 32 0x33 = none := by decide

/-! ### One step -/

/-- The state after one step that takes the packet, from `s`; `s` itself where the step stops (none does). -/
def after (s : State) (cmd a b c : Word) : State :=
  match step (s.presentNext ⟨cmd, a, b, c⟩) with
  | .next t => t
  | .fault _ => s
  | .refused _ => s

/-- The response to one command right after reset. -/
def answer (cmd a b c : Word) : Option Word := (after State.reset cmd a b c).response

/-- A machine with two voices, the first active with these words. -/
def withVoice (lastAdvance sample lastSample : Word) : State :=
  { initDone := false, voices := [⟨true, lastAdvance, sample, lastSample⟩, Voice.reset], response := none,
    inbox := [], draws := 0 }

theorem test_init : answer 0x00 0xDEADBEEF 1 2 = some 0 ∧ (after State.reset 0x00 0 0 0).initDone = true := by
  decide
theorem test_stat : (after (withVoice 0 0 0) 0x01 0 0 0).response = some 0x00010000 ∧
    (after (withVoice 0 0 0) 0x01 0 0 0).initDone = false := by decide
theorem test_stat_after_init :
    (after { withVoice 0 0 0 with initDone := true, voices := [Voice.reset, Voice.started] } 0x01 0 0 0).response
      = some 0x00020001 := by decide
theorem test_add_wraps : answer 0x10 0x7FFFFFFF 1 0 = some 0x80000000 ∧
    (after State.reset 0x10 1 1 0).initDone = false := by decide
theorem test_sub_operand_order : answer 0x11 0x00018000 0x00020000 0 = some 0xFFFF8000 := by decide
theorem test_mul_floors : answer 0x12 0x00008000 0xFFFFFFFD 0 = some 0xFFFFFFFE ∧
    answer 0x12 0x7FFFFFFF 0x7FFFFFFF 0 = some 0xFFFF0000 := by decide
theorem test_div_truncates : answer 0x13 0xFFFF0000 0x00030000 0 = some 0xFFFFAAAB ∧
    answer 0x13 0x80000000 0xFFFF0000 0 = some 0x80000000 := by decide
/-- DIV by zero goes on: one UNSPECIFIED word is drawn and no state of the unit changes (R104). -/
theorem test_div_by_zero_goes_on : (after (withVoice 1 2 3) 0x13 0x00010000 0 0).draws = 1 ∧
    (after (withVoice 1 2 3) 0x13 0x00010000 0 0).voices = (withVoice 1 2 3).voices ∧
    (after (withVoice 1 2 3) 0x13 0x00010000 0 0).initDone = false := by decide
theorem test_lerp : answer 0x14 0x00030000 0x00010000 0x00004000 = some 0x00028000 ∧
    answer 0x14 0x80000000 0x7FFFFFFF 0x00008000 = some 0x7FFFFFFF := by decide
theorem test_itox_wraps : answer 0x15 0xFFFF7FFF 0 0 = some 0x7FFF0000 := by decide
theorem test_xtoi_floors : answer 0x16 0xFFFE8000 0 0 = some 0xFFFFFFFE := by decide
theorem test_ftox : answer 0x17 0xB7FFFFFF 0 0 = some 0xFFFFFFFF ∧ answer 0x17 0xC7000000 0 0 = some 0x80000000 ∧
    answer 0x17 0x3DCCCCCD 0 0 = some 0x00001999 := by decide
/-- +32768.0 does not fit and +infinity is no number: a draw (R108). -/
theorem test_ftox_out_of_range : (after State.reset 0x17 0x47000000 0 0).draws = 1 ∧
    (after State.reset 0x17 0x7F800000 0 0).draws = 1 := by decide
theorem test_xtof_ties_to_even : answer 0x18 0x01000001 0 0 = some 0x43800000 ∧
    answer 0x18 0x01000003 0 0 = some 0x43800002 := by decide
theorem test_xtof_edges : answer 0x18 0x7FFFFFC0 0 0 = some 0x47000000 ∧
    answer 0x18 0xFFFFFFFF 0 0 = some 0xB7800000 ∧ answer 0x18 0 0 0 = some 0 := by decide
theorem test_frac_table : answer 0x20 0x0000FEB8 0 0 = some 0x0000FD70 ∧ answer 0x20 0x0000FEB9 0 0 = some 0 ∧
    answer 0x20 0x00002000 0 0 = some 0x00002147 := by decide
theorem test_frac_fallback : answer 0x20 0x0001FEB9 0 0 = some 0x0000FEB9 ∧
    answer 0x20 0xFFFE4000 0 0 = some 0xFFFF4000 ∧ (after State.reset 0x20 0x20000 0 0).initDone = true := by
  decide
theorem test_fabs_ties : answer 0x21 0x00002000 0 0 = some 0x00002147 ∧
    answer 0x21 0xFFFFE000 0 0 = some 0x00001EB8 := by decide
theorem test_fabs_fallback : answer 0x21 0x80000000 0 0 = some 0x80000000 ∧
    answer 0x21 0xFFFEFFFF 0 0 = some 0x00010001 := by decide
theorem test_sin_clamps : answer 0x22 0xFFFFFFFF 0 0 = some 0 ∧ answer 0x22 0x00014000 0 0 = some 0xFFFFF9B8 ∧
    answer 0x22 0x0000C0C1 0 0 = some 0xFFFF0000 := by decide
theorem test_div7 : answer 0x23 7 0 0 = some 0x00010000 ∧ answer 0x23 8 0 0 = some 0x00012492 ∧
    answer 0x23 0xFFFFFFFF 0 0 = some 0xFFFFDB6E := by decide
theorem test_div183 : answer 0x24 255 0 0 = some 0x000164B8 ∧ answer 0x24 0x7FFFFFFF 0 0 = some 0x0F635122 := by
  decide
theorem test_freq : answer 0x25 33 0 0 = some 0x01B80000 ∧ answer 0x25 63 0 0 = some 0x09B90410 ∧
    answer 0x25 64 0 0 = some 0 ∧ answer 0x25 0xFFFFFFFF 0 0 = some 0 := by decide
theorem test_floor : answer 0x26 0xFFFE8000 0 0 = some 0xFFFE0000 := by decide
theorem test_muli : answer 0x27 0x0000FFFF 24 0 = some 0x0017FFE8 ∧
    answer 0x27 0x00018000 0xFFFFFFFE 0 = some 0xFFFD0000 := by decide
theorem test_divi : answer 0x28 0x00010000 0xFFFFFFFA 0 = some 0xFFFFD556 ∧
    answer 0x28 0xFFFCFFFF 2 0 = some 0xFFFE8000 := by decide
/-- DIVI by zero still sets `INIT_DONE` (R150). -/
theorem test_divi_by_zero_sets_init : (after State.reset 0x28 0x00010000 0 0).initDone = true ∧
    (after State.reset 0x28 0x00010000 0 0).draws = 1 := by decide
theorem test_min_signed : answer 0x29 0 0xFFFFFFFF 0 = some 0xFFFFFFFF := by decide
theorem test_max_signed : answer 0x2A 0xFFFFFFFF 0 0 = some 0 := by decide
theorem test_clamp : answer 0x2B 0xFFFE0000 0xFFFF0000 0x00010000 = some 0xFFFF0000 ∧
    answer 0x2B 0x00050000 0x00010000 0xFFFF0000 = some 0xFFFF0000 := by decide
theorem test_genTriangle : answer 0x0030 0x00014800 0 0 = some 0xFFFFEF5C ∧
    answer 0x0030 0x0001B800 0 0 = some 0xFFFFF0A3 := by decide
theorem test_genTiltedSaw : answer 0x0130 0x0001E665 0 0 = some 0x00007FFE ∧
    answer 0x0130 0x0001FFFF 0 0 = some 0xFFFF800A := by decide
theorem test_genSaw : answer 0x0230 0x00017FFF 0 0 = some 0x00005394 ∧
    answer 0x0230 0x00018000 0 0 = some 0xFFFFAC6A := by decide
theorem test_genSquare : answer 0x00FF0330 0x00004000 0 0 = some 0x00004000 ∧
    answer 0x0330 0x0000C000 0 0 = some 0xFFFFC000 := by decide
theorem test_genPulse : answer 0x0430 0x00015554 0 0 = some 0x00004000 ∧
    answer 0x0430 0x00015555 0 0 = some 0xFFFFC000 := by decide
theorem test_genOrgan : answer 0x0530 0x00014800 0 0 = some 0x00004000 ∧
    answer 0x0530 0x0001B800 0 0 = some 0x00000E38 := by decide
theorem test_genPhaser : answer 0x0730 0x01234567 0 0 = some 0xFFFFB1DF ∧
    answer 0x0730 0x00404000 0 0 = some 0xFFFFD556 := by decide
theorem test_genUnk : answer 0x0F30 0x00014000 0 0 = some 0 ∧ answer 0x1030 5 0 0 = some 0 ∧
    answer 0x2030 5 0 0 = some 0 ∧ answer 0x7F30 5 0 0 = some 0 ∧ answer 0x0003FF30 5 0 0 = some 0 ∧
    (after State.reset 0x0000C830 0 0 0).initDone = true := by decide
/-- Row 2 of sequence N1 of file 96. -/
theorem test_genNoise : (after (withVoice 0x400 0xF90 0) 0x0630 0x800 0xFFFF4000 0).response = some 0x00000287 ∧
    (after (withVoice 0x400 0xF90 0) 0x0630 0x800 0xFFFF4000 0).voices =
      [⟨true, 0x800, 0xFFFFF653, 0xF90⟩, Voice.reset] := by decide
/-- Sequence N4 of file 96: `1 + scale = 0`. The sample is open, the other words are written. -/
theorem test_genNoise_open_case :
    let t := after (withVoice 0x2000 0x4343 0) 0x0630 0x31B 0x8000 0
    t.voices.map (fun v => (v.active, v.lastAdvance, v.lastSample)) = [(true, 0x31B, 0x4343), (false, 0, 0)] ∧
      t.initDone = true := by decide
theorem test_vstart : (after (withVoice 1 2 3) 0x31 0 0 0).voices = [Voice.started, Voice.reset] ∧
    (after (withVoice 1 2 3) 0x00020031 0 0 0).voices = (withVoice 1 2 3).voices := by decide
theorem test_vstop : (after (withVoice 1 2 3) 0x32 0 0 0).voices = [⟨false, 1, 2, 3⟩, Voice.reset] ∧
    (after (withVoice 1 2 3) 0x32 0 0 0).initDone = false := by decide
/-- A reserved word responds 0 and changes no state (R77). -/
theorem test_reserved_word : (after (withVoice 1 2 3) 0x01000020 5 6 7).response = some 0 ∧
    (after (withVoice 1 2 3) 0x01000020 5 6 7).voices = (withVoice 1 2 3).voices ∧
    (after (withVoice 1 2 3) 0x01000020 5 6 7).initDone = false := by decide
theorem test_idle : step State.reset = .next State.reset := rfl
theorem test_reset_input :
    step { withVoice 1 2 3 with initDone := true, inbox := [.reset none, .command ⟨1, 0, 0, 0⟩] } =
      .next { State.resetWith 2 with inbox := [.command ⟨1, 0, 0, 0⟩] } := rfl
theorem test_withFetchWord :
    (State.reset.withFetchWord 32 0x00030031).inbox = [.command ⟨0x00030031, 0, 0, 0⟩] := by decide

/-! ### Witnesses: a concrete state and operands that meet the hypotheses of each statement -/

theorem witness_wellFormed : (Instr.genUnk64 64 200).wellFormed = true ∧ (Instr.genNoise 3 1 2).wellFormed = true := by
  decide
/-- For `DecodedWordReencodes`, `DecodeFollowsOpcodeTable` and `StepRunsTheDecodedCommand`. -/
theorem witness_decodes : decode ⟨0x0003FF30, 1, 2, 3⟩ = .ok (.genUnk128 255 3) ∧
    matchesRow 0x0003FF30 (.genUnk128 255 3) := ⟨rfl, by unfold matchesRow; decide⟩
theorem witness_reserved : decode ⟨0x00000120, 1, 2, 3⟩ = .error .selNotZero := rfl
theorem witness_div : S (0xFFFFFFFF : Word) ≠ 0 ∧ S (1 : Word) ≠ 0 ∧ S (0 : Word) = 0 := by decide
theorem witness_integerConversions : S (0xFFFF8000 : Word) = -32768 ∧ S (0x00007FFF : Word) = 32767 := by decide
/-- -32768.0 is the least float that fits, +32768.0 does not fit, the next float below -32768.0 does not fit, and
+infinity is no number. -/
theorem witness_ftox : f32Exp 0xC7000000 ≠ 255 ∧ truncQ (f32Value 0xC7000000 * 65536) = -2147483648 ∧
    truncQ (f32Value 0x46FFFFFF * 65536) = 2147483520 ∧ truncQ (f32Value 0x47000000 * 65536) = 2147483648 ∧
    truncQ (f32Value 0xC7000001 * 65536) = -2147483904 ∧ f32Exp 0x7F800000 = 255 := by
  refine ⟨by decide, ?_, ?_, ?_, ?_, by decide⟩ <;>
    norm_num [truncQ, f32Value,
      show f32Sign 0xC7000000 = true by decide, show f32Exp 0xC7000000 = 142 by decide,
      show f32Frac 0xC7000000 = 0 by decide, show f32Sign 0x46FFFFFF = false by decide,
      show f32Exp 0x46FFFFFF = 141 by decide, show f32Frac 0x46FFFFFF = 8388607 by decide,
      show f32Sign 0x47000000 = false by decide, show f32Exp 0x47000000 = 142 by decide,
      show f32Frac 0x47000000 = 0 by decide, show f32Sign 0xC7000001 = true by decide,
      show f32Exp 0xC7000001 = 142 by decide, show f32Frac 0xC7000001 = 1 by decide]
/-- 0x01000001 lies halfway between the floats 0x43800000 and 0x43800001. -/
theorem witness_xtof_tie : f32Exp 0x43800001 ≠ 255 ∧ f32Value 0x43800001 ≠ f32Value 0x43800000 ∧
    |f32Value 0x43800001 - fxValue 0x01000001| = |f32Value 0x43800000 - fxValue 0x01000001| := by
  refine ⟨by decide, ?_, ?_⟩ <;>
    norm_num [f32Value, fxValue, show f32Sign 0x43800001 = false by decide,
      show f32Exp 0x43800001 = 135 by decide, show f32Frac 0x43800001 = 1 by decide,
      show f32Sign 0x43800000 = false by decide, show f32Exp 0x43800000 = 135 by decide,
      show f32Frac 0x43800000 = 0 by decide, show S (0x01000001 : Word) = 16777217 by decide, abs_of_pos,
      abs_of_neg]
theorem witness_xtofThenFtox : S (0x00FFFFFF : Word) = 16777215 ∧ S (0xFF000001 : Word) = -16777215 := by decide
theorem witness_inv : (withVoice 1 2 3).Inv ∧ (State.resetWith 16).Inv := by
  unfold State.Inv; decide
/-- The ends of the ranges of `FracTableOrExact`, `FabsTableOrExact` and `QuantizerErrorBound`. -/
theorem witness_quantizer_ranges : S (0 : Word) = 0 ∧ S (0x10000 : Word) = 65536 ∧ S (0x10001 : Word) = 65537 ∧
    S (0xFFFFFFFF : Word) = -1 ∧ S (0xFFFF0000 : Word) = -65536 ∧ S (0xFFFEFFFF : Word) = -65537 ∧
    S (0x80000000 : Word) = -2147483648 ∧ S (0xFEB8 : Word) = 65208 ∧ S (0xFEB9 : Word) = 65209 := by decide
theorem witness_grid : S (0xFD70 : Word) = 65536 * 99 / 100 ∧ S (0xFFFF0000 : Word) = Int.tdiv (65536 * -100) 100 ∧
    S (0x10000 : Word) = Int.tdiv (65536 * 100) 100 := by decide
/-- Entries 0, 254 and 255 of `SinClampsItsIndex`: at 1.0 the clause on the index and the clause on 1.0 agree. -/
theorem witness_sin : S (0xFFFF : Word) * 255 < 65536 * (254 + 1) ∧ 65536 * 254 ≤ S (0xFFFF : Word) * 255 ∧
    65536 * 255 ≤ S (0x10000 : Word) * 255 ∧ S (0x10000 : Word) * 255 < 65536 * (255 + 1) ∧
    sinRom.getD 255 0 = -1608 := by decide
theorem witness_freq : S (63 : Word) = 63 ∧ S (64 : Word) = 64 ∧ S (0xFFFFFFFF : Word) < 0 := by decide
/-- `lo > hi`, below, above, at both bounds, for the clauses on CLAMP. -/
theorem witness_clamp : S (0xFFFF0000 : Word) < S (0x10000 : Word) ∧ S (0xFFFE0000 : Word) < S (0xFFFF0000 : Word) ∧
    S (0x10000 : Word) < S (0x20000 : Word) ∧ S (0x10000 : Word) ≤ S (0x10000 : Word) := by decide
/-- Phases on both sides of each comparison of the waveform formulas. -/
theorem witness_phases : S (fracVal 0x0001E665) = 58981 ∧ S (fracVal 0x0001E666) = 58982 ∧
    S (fracVal 0x00017FFF) = 32767 ∧ S (fracVal 0x00018000) = 32768 ∧ S (fracVal 0x00015554) = 21844 ∧
    S (fracVal 0x00015555) = 21845 := by decide
theorem witness_unknown_sel : 8 ≤ (8 : Byte).toNat ∧ 8 ≤ (255 : Byte).toNat := by decide
/-- For the response ranges and `PhaseStaysWithinOneCycle`. -/
theorem witness_advance : 0 ≤ S (0 : Word) ∧ 0 ≤ S (0x7FFFFFFF : Word) ∧ S (0x80000000 : Word) < 0 := by decide
theorem witness_triangle_mirror : 65536 < S (0x00010001 : Word) ∧ S (0x0001FFFF : Word) < 131072 ∧
    S (0x0001FFFF : Word) = 196608 - S (0x00010001 : Word) := by decide
/-- For `NoiseRunsItsRecurrence`: an active voice, and an inactive one that is started first. -/
theorem witness_noise : (withVoice 0x400 0xF90 0).voices[(0 : Byte).toNat]? = some ⟨true, 0x400, 0xF90, 0⟩ ∧
    noiseDen ⟨true, 0x400, 0xF90, 0⟩ 0x800 ≠ 0 ∧
    (withVoice 0x400 0xF90 0).voices[(1 : Byte).toNat]? = some ⟨false, 0, 0, 0⟩ ∧
    noiseDen ⟨true, 0, 0, 0⟩ 0x400 ≠ 0 := by decide
theorem witness_noise_open_case : (withVoice 0x2000 0x4343 0).voices[(0 : Byte).toNat]? = some ⟨true, 0x2000, 0x4343, 0⟩ ∧
    noiseDen ⟨true, 0x2000, 0x4343, 0⟩ 0x31B = 0 := by decide
theorem witness_missing_voice : (withVoice 1 2 3).voices.length ≤ (2 : Byte).toNat ∧
    State.reset.voices.length ≤ (255 : Byte).toNat := by decide
theorem witness_inactive_voice : (∀ x, (withVoice 1 2 3).voices[(1 : Byte).toNat]? = some x → x.active = false) ∧
    exec (.vstart 1) (withVoice 1 2 3) =
      .next { withVoice 1 2 3 with voices := [⟨true, 1, 2, 3⟩, Voice.started], response := some 0 } :=
  ⟨fun _ h => by cases h; rfl, rfl⟩
theorem witness_noise_specified : unspecifiedOn (.genNoise 0 0x800 5) (withVoice 0x400 0xF90 0) = false ∧
    unspecifiedOn (.genNoise 9 0x800 5) (withVoice 0x400 0xF90 0) = false := by decide
/-- Phase differences at both ends of `SmallForwardStepsAreDefined`, and the subtraction that yields one. -/
theorem witness_forward_steps : S (subVal 242377498 0) = 242377498 ∧ S (subVal 7 7) = 0 ∧
    yields (.sub 242377498 (Voice.started).lastAdvance) (subVal 242377498 0) := by
  refine ⟨by decide, by decide, fun _ => ⟨_, rfl, rfl⟩⟩
theorem witness_step_from_inv : (withVoice 1 2 3).Inv ∧
    step ((withVoice 1 2 3).presentNext ⟨0x00020031, 0, 0, 0⟩) = .next { withVoice 1 2 3 with response := some 0 } :=
  ⟨by unfold State.Inv; decide, rfl⟩
/-- For `CommandFrame` and `FreeWordsOnlyWhereUnspecified`: a command that touches no voice, one on a missing voice, and
one with an UNSPECIFIED result. -/
theorem witness_commands : touches (Instr.add 1 2).voice (.add 1 2) = false ∧ touches 9 (.vstop 9) = true ∧
    exec (.vstop 9) (withVoice 1 2 3) = .next { withVoice 1 2 3 with response := some 0 } ∧
    unspecifiedOn (.div 1 0) (withVoice 1 2 3) = true ∧
    exec (.div 1 0) (withVoice 1 2 3) = .next ((withVoice 1 2 3).respondFree .div 1 0) := by
  refine ⟨by decide, by decide, rfl, by decide, rfl⟩
theorem witness_init_done_kept : step ({ withVoice 1 2 3 with initDone := true }.presentNext ⟨0x00000010, 1, 1, 0⟩) =
    .next { withVoice 1 2 3 with initDone := true, response := some 2 } := rfl
theorem witness_interleaving :
    allSpecified ([.vstart 0, .genNoise 1 5 6, .add 1 2, .genNoise 0 0x400 0x8000, .vstop 0].filter (touches 0))
      (withVoice 1 2 3) := by
  refine ⟨rfl, fun t h => ?_⟩
  cases h
  refine ⟨by decide, fun t h => ?_⟩
  cases h
  exact ⟨rfl, fun _ _ => trivial⟩
/-- For `VoicesWithTheSameStateAgree`: voice 0 of one machine and voice 1 of another. -/
theorem witness_same_voice : (withVoice 0x400 0xF90 0).voices[(0 : Byte).toNat]? =
    { withVoice 1 2 3 with voices := [Voice.reset, ⟨true, 0x400, 0xF90, 0⟩] }.voices[(1 : Byte).toNat]? := rfl
/-- For `InactiveVoiceWordsAreUnobservable`: what VSTOP left behind differs. -/
theorem witness_same_visible : sameVisible (withVoice 1 2 3)
    { withVoice 1 2 3 with voices := [⟨true, 1, 2, 3⟩, ⟨false, 7, 8, 9⟩] } :=
  ⟨rfl, .cons (.inl rfl) (.cons (.inr ⟨rfl, rfl⟩) .nil), rfl, rfl, rfl⟩

end Sys2Proof.Tests
end

/-! SUPPORT. The step on each kind of input, unfolded once; all that a step can be (R13, R77, R220) and all that a command
can do to the state; and what follows from these for every step and every command. -/

namespace Sys2Proof.Machine

section Step
variable {s t : State} {rest : List HostInput} {p : Packet}

/-- With nothing presented the unit idles (log entry 4). -/
theorem step_of_nil (h : s.inbox = []) : step s = .next s.idle := by
  simp only [step, State.takeInput, h]

/-- A reset input resets (R220). -/
theorem step_of_reset {cut : Option Packet} (h : s.inbox = .reset cut :: rest) :
    step s = .next (State.hostReset { s with inbox := rest } cut) := by
  simp only [step, State.takeInput, h]

/-- An accepted command word is executed (R13, R78). -/
theorem step_of_command {i : Instr} (h : s.inbox = .command p :: rest) (hd : decode p = .ok i) :
    step s = exec i { s with inbox := rest } := by
  simp only [step, State.takeInput, h, hd]

/-- A reserved command word is answered (R77). -/
theorem step_of_reserved {r : Reserved} (h : s.inbox = .command p :: rest) (hd : decode p = .error r) :
    step s = .next (State.answerReserved { s with inbox := rest }) := by
  simp only [step, State.takeInput, h, hd]

/-- All that a step can be: idling, a reset, the answer to a reserved word, or one decoded command. -/
theorem step_cases (h : step s = .next t) :
    (s.inbox = [] ∧ t = s.idle) ∨
    (∃ cut rest, s.inbox = .reset cut :: rest ∧ t = State.hostReset { s with inbox := rest } cut) ∨
    (∃ p rest r, s.inbox = .command p :: rest ∧ decode p = .error r ∧
      t = State.answerReserved { s with inbox := rest }) ∨
    ∃ p rest i, s.inbox = .command p :: rest ∧ decode p = .ok i ∧
      exec i { s with inbox := rest } = .next t := by
  cases hin : s.inbox with
  | nil =>
    rw [step_of_nil hin] at h
    cases h
    exact .inl ⟨rfl, rfl⟩
  | cons x rest =>
    cases x with
    | reset cut =>
      rw [step_of_reset hin] at h
      cases h
      exact .inr (.inl ⟨cut, rest, rfl, rfl⟩)
    | command p =>
      cases hd : decode p with
      | error r =>
        rw [step_of_reserved hin hd] at h
        cases h
        exact .inr (.inr (.inl ⟨p, rest, r, rfl, hd, rfl⟩))
      | ok i =>
        rw [step_of_command hin hd] at h
        exact .inr (.inr (.inr ⟨p, rest, i, rfl, hd, h⟩))

end Step

/-! ### The commands whose result is UNSPECIFIED, on the states of U4 -/

/-- GEN NOISE on a missing voice draws nothing (R76, R184). -/
theorem unspecifiedOn_genNoise_missing {s : State} {voice : Byte} (a b : Word) (h : s.voiceAt voice = none) :
    unspecifiedOn (.genNoise voice a b) s = false := by
  simp only [unspecifiedOn, h]

/-- GEN NOISE on an existing voice is UNSPECIFIED exactly with `1 + scale = 0` (R184, U4). -/
theorem unspecifiedOn_genNoise {s : State} {voice : Byte} {x : Voice} (a b : Word)
    (h : s.voiceAt voice = some x) :
    unspecifiedOn (.genNoise voice a b) s = decide (noiseDen (noiseVoice x) a = 0) := by
  simp only [unspecifiedOn, h]

/-! ### All that a command can do -/

/-- The state after command `i` on `s`, for some response `y` and some written voice `x`: one case per combination of
writing a voice or none, and of drawing UNSPECIFIED words or none. A write to a missing voice has no effect (R76), so
`writeVoice` asks for no existing one. -/
inductive CommandEffect (i : Instr) (s : State) : State → Prop
  /-- It answers, and writes no voice. -/
  | answer (y : Word) {d : Bool} (init : d = (s.initDone || setsInit i))
      (specified : unspecifiedOn i s = false) :
      CommandEffect i s { s with initDone := d, response := some y }
  /-- It answers with an UNSPECIFIED word, and writes no voice (U1 to U3). -/
  | answerFree (y : Word) {d : Bool} (init : d = (s.initDone || setsInit i))
      (free : unspecifiedOn i s = true) :
      CommandEffect i s { s with initDone := d, response := some y, draws := s.draws + 1 }
  /-- It writes the voice it names and answers. -/
  | writeVoice (y : Word) (x : Voice) {d : Bool} (init : d = (s.initDone || setsInit i))
      (specified : unspecifiedOn i s = false) (touched : touches i.voice i = true) :
      CommandEffect i s
        { s with initDone := d, voices := s.voices.set i.voice.toNat x, response := some y }
  /-- It writes an UNSPECIFIED sample to the voice it names and answers with a second UNSPECIFIED word (U4). -/
  | writeVoiceFree (y : Word) (x : Voice) {d : Bool} (init : d = (s.initDone || setsInit i))
      (free : unspecifiedOn i s = true) (touched : touches i.voice i = true) :
      CommandEffect i s
        { s with
          initDone := d, voices := s.voices.set i.voice.toNat x, response := some y,
          draws := s.draws + 2 }

section Effects
variable {i : Instr} {s t : State} {a b : Word} {voice : Byte}

/-- What a command outside the facade and GEN makes of `INIT_DONE` (R23). -/
theorem initDone_kept (hi : setsInit i = false) : s.initDone = (s.initDone || setsInit i) := by
  rw [hi, Bool.or_false]

/-- What INIT, a facade operation or GEN makes of `INIT_DONE` (R23, R140, R170). -/
theorem initDone_set (hi : setsInit i = true) : true = (s.initDone || setsInit i) := by
  rw [hi, Bool.or_true]

/-- DIV, with U1 for a zero divisor (R104). -/
theorem exec_div_effect (h : exec (.div a b) s = .next t) : CommandEffect (.div a b) s t := by
  by_cases hb : S b = 0
  · rw [exec_div_zero s a b hb] at h
    cases h
    exact .answerFree _ (initDone_kept rfl) (decide_eq_true hb)
  · rw [exec_div_nonzero s a b hb] at h
    cases h
    exact .answer _ (initDone_kept rfl) (decide_eq_false hb)

/-- DIVI, with U2 for a zero divisor (R150). -/
theorem exec_divi_effect (h : exec (.divi a b) s = .next t) : CommandEffect (.divi a b) s t := by
  by_cases hb : S b = 0
  · rw [exec_divi_zero s a b hb] at h
    cases h
    exact .answerFree _ (initDone_set rfl) (decide_eq_true hb)
  · rw [exec_divi_nonzero s a b hb] at h
    cases h
    exact .answer _ (initDone_set rfl) (decide_eq_false hb)

/-- FTOX, with U3 for a float that does not fit (R108). -/
theorem exec_ftox_effect (h : exec (.ftox a) s = .next t) : CommandEffect (.ftox a) s t := by
  cases hf : ftoxVal a with
  | none =>
    rw [exec_ftox_none s a hf] at h
    cases h
    exact .answerFree _ (initDone_kept rfl) (Option.isNone_iff_eq_none.mpr hf)
  | some y =>
    rw [exec_ftox_some s a hf] at h
    cases h
    exact .answer _ (initDone_kept rfl) (by simp only [unspecifiedOn, hf, Option.isNone_some])

/-- GEN NOISE on a missing voice, with `1 + scale = 0` (U4), and otherwise (R184). -/
theorem exec_genNoise_effect (h : exec (.genNoise voice a b) s = .next t) :
    CommandEffect (.genNoise voice a b) s t := by
  have touched : touches voice (.genNoise voice a b) = true := decide_eq_true rfl
  cases hv : s.voiceAt voice with
  | none =>
    rw [exec_genNoise_missing s a b voice hv] at h
    cases h
    exact .answer _ (initDone_set rfl) (unspecifiedOn_genNoise_missing a b hv)
  | some x =>
    have hu := unspecifiedOn_genNoise a b hv
    by_cases hd : noiseDen (noiseVoice x) a = 0
    · rw [exec_genNoise_open s a b voice hv hd] at h
      cases h
      exact .writeVoiceFree _ _ (initDone_set rfl) (hu.trans (decide_eq_true hd)) touched
    · rw [exec_genNoise s a b voice hv hd] at h
      cases h
      exact .writeVoice _ _ (initDone_set rfl) (hu.trans (decide_eq_false hd)) touched

/-- VSTOP on a missing and on an existing voice (R187). -/
theorem exec_vstop_effect (h : exec (.vstop voice) s = .next t) : CommandEffect (.vstop voice) s t := by
  rw [exec_vstop] at h
  cases h
  obtain ⟨_, hs⟩ | ⟨x, _, hs⟩ := s.stopVoice_cases voice
  · rw [hs]
    exact .answer _ (initDone_kept rfl) rfl
  · rw [hs]
    exact .writeVoice _ _ (initDone_kept rfl) rfl (decide_eq_true rfl)

/-- All that a command can do: every instruction has one of the four effects. -/
theorem exec_effect (h : exec i s = .next t) : CommandEffect i s t := by
  cases i with
  | stat | add | sub | mul | lerp | itox | xtoi | xtof =>
    cases h
    exact .answer _ (initDone_kept rfl) rfl
  | init | frac | fabs | sin | div7 | div183 | freq | floor | muli | min | max | clamp | genTriangle
  | genTiltedSaw | genSaw | genSquare | genPulse | genOrgan | genPhaser | genUnk8 | genUnk16 | genUnk32
  | genUnk64 | genUnk128 =>
    cases h
    exact .answer _ (initDone_set rfl) rfl
  | vstart =>
    cases h
    exact .writeVoice _ _ (initDone_kept rfl) rfl (decide_eq_true rfl)
  | div => exact exec_div_effect h
  | divi => exact exec_divi_effect h
  | ftox => exact exec_ftox_effect h
  | genNoise => exact exec_genNoise_effect h
  | vstop => exact exec_vstop_effect h

end Effects

/-! ### What follows for every command and every step -/

section Consequences
variable {i : Instr} {s t : State}

/-- A command keeps the number of voices (R5). -/
theorem exec_voices_length (h : exec i s = .next t) : t.voices.length = s.voices.length := by
  cases exec_effect h with
  | answer | answerFree => rfl
  | writeVoice | writeVoiceFree => exact List.length_set

/-- A step keeps the number of voices, also one that resets (R5, R221). -/
theorem step_voices_length (h : step s = .next t) : t.voices.length = s.voices.length := by
  obtain ⟨_, rfl⟩ | ⟨cut, rest, _, rfl⟩ | ⟨p, rest, r, _, _, rfl⟩ | ⟨p, rest, i, _, _, he⟩ := step_cases h
  · rw [State.idle_voices]
  · rw [State.hostReset_voices, List.length_replicate]
  · rfl
  · have hlen := exec_voices_length he
    exact hlen

/-- A command writes one voice at most, the one it names (R25). -/
theorem exec_voices_other (h : exec i s = .next t) {u : Nat} (hu : u ≠ i.voice.toNat) :
    t.voices[u]? = s.voices[u]? := by
  cases exec_effect h with
  | answer | answerFree => rfl
  | writeVoice | writeVoiceFree => exact List.getElem?_set_ne hu.symm

/-- A command that touches no voice, or names a missing one, leaves the voice file as it is (R25, R76). -/
theorem exec_voices_of_untouched (h : exec i s = .next t)
    (hv : touches i.voice i = false ∨ s.voices.length ≤ i.voice.toNat) : t.voices = s.voices := by
  cases exec_effect h with
  | answer | answerFree => rfl
  | writeVoice y x _ _ touched | writeVoiceFree y x _ _ touched =>
    obtain untouched | missing := hv
    · exact absurd touched (Bool.eq_false_iff.mp untouched)
    · exact List.set_eq_of_length_le missing

/-- A command takes nothing of what is still presented (R13). -/
theorem exec_inbox (h : exec i s = .next t) : t.inbox = s.inbox := by
  cases exec_effect h <;> rfl

/-- Every command responds with a word (R70). -/
theorem exec_response (h : exec i s = .next t) : ∃ y, t.response = some y := by
  cases exec_effect h <;> exact ⟨_, rfl⟩

end Consequences
end Sys2Proof.Machine

/-! SUPPORT. The decoder builds well-formed instructions only (R75, R78). -/

namespace Sys2Proof

/-- GEN's instrument with its own range of `sel` (R75): each of the five rows for unknown instruments is reached only
inside its range. -/
theorem wellFormed_genOf (sel voice : Byte) (a b : Word) : (genOf sel voice a b).wellFormed = true := by
  by_cases known : sel.toNat < 8
  · have hsel : sel = 0 ∨ sel = 1 ∨ sel = 2 ∨ sel = 3 ∨ sel = 4 ∨ sel = 5 ∨ sel = 6 ∨ sel = 7 := by bv_omega
    rcases hsel with rfl | rfl | rfl | rfl | rfl | rfl | rfl | rfl <;> rfl
  · have unknown (n : Byte) (hn : n.toNat < 8) : sel ≠ n := fun h => known (h ▸ hn)
    rw [genOf, if_neg (unknown 0 (by decide)), if_neg (unknown 1 (by decide)), if_neg (unknown 2 (by decide)),
      if_neg (unknown 3 (by decide)), if_neg (unknown 4 (by decide)), if_neg (unknown 5 (by decide)),
      if_neg (unknown 6 (by decide)), if_neg (unknown 7 (by decide))]
    split_ifs <;> simp [Instr.wellFormed, selBetween] <;> omega

/-- The instruction built for an operation is well-formed (R78). -/
theorem wellFormed_instrOf (op : Op) (p : Packet) : (instrOf op p).wellFormed = true := by
  cases op with
  | GEN => exact wellFormed_genOf ..
  | _ => rfl

/-- What the decoder accepts is well-formed (R78). -/
theorem wellFormed_of_decode {p : Packet} {i : Instr} (h : decode p = .ok i) : i.wellFormed = true := by
  obtain ⟨_, op, _, _, _, rfl⟩ := decode_eq_ok_iff.mp h
  exact wellFormed_instrOf op p

end Sys2Proof


/-! The statements of the family, settled by the lemmas above. -/

namespace Sys2Proof.Machine

/-- Settles O52, from the number of voices that every step keeps. -/
theorem stepKeepsTheVoiceFile : Obligations.StepKeepsTheVoiceFile := by
  intro s t hInv h
  have hlen := step_voices_length h
  exact ⟨by rwa [State.Inv, hlen], hlen⟩

/-- Settles O54, from the four effects a command can have. -/
theorem commandFrame : Obligations.CommandFrame := fun _ _ _ h =>
  ⟨exec_response h, exec_inbox h, exec_voices_length h, fun _ => exec_voices_other h,
    exec_voices_of_untouched h⟩

/-- Settles O56: of the four effects, the two that draw are those of U1 to U4. -/
theorem freeWordsOnlyWhereUnspecified : Obligations.FreeWordsOnlyWhereUnspecified := by
  intro i s t h
  cases exec_effect h with
  | answer _ _ specified | writeVoice _ _ _ specified => simp [specified]
  | answerFree _ _ free | writeVoiceFree _ _ _ free => simp [free]

/-- Settles O6, by the step on an accepted command word and the well-formedness of what the decoder accepts. -/
theorem stepRunsTheDecodedCommand : Obligations.StepRunsTheDecodedCommand :=
  fun _ _ _ _ hd => ⟨wellFormed_of_decode hd, step_of_command rfl hd⟩

/-- Settles O7, by the step with nothing presented. -/
theorem stepIdlesWithNothingPresented : Obligations.StepIdlesWithNothingPresented :=
  fun _ => step_of_nil rfl

/-- A unit reset with a number of voices R5 allows meets the invariant (R30). -/
theorem resetWith_inv {n : Nat} (h₁ : 1 ≤ n) (h₁₆ : n ≤ 16) : (State.resetWith n).Inv := by
  simpa [State.Inv, State.resetWith] using ⟨h₁, h₁₆⟩

/-- Settles O53; the four voices of `State.reset` are log entry 1. -/
theorem resetMeetsTheInvariant : Obligations.ResetMeetsTheInvariant :=
  ⟨resetWith_inv (by decide) (by decide), fun _ => resetWith_inv⟩

end Sys2Proof.Machine

/-! SUPPORT. Every command completes; the voice a command works on, read after it; and the relation `sameVisible`
(R31) under each shared operation, under every command and under every step. -/

namespace Sys2Proof.Machine

/-! ### Every command completes -/

/-- No command faults or is refused (R200). -/
theorem exec_completes (i : Instr) (s : State) : ∃ t, exec i s = .next t := by
  cases i with
  | div a b =>
    by_cases hb : S b = 0
    · exact ⟨_, exec_div_zero s a b hb⟩
    · exact ⟨_, exec_div_nonzero s a b hb⟩
  | divi a b =>
    by_cases hb : S b = 0
    · exact ⟨_, exec_divi_zero s a b hb⟩
    · exact ⟨_, exec_divi_nonzero s a b hb⟩
  | ftox a =>
    cases hf : ftoxVal a with
    | none => exact ⟨_, exec_ftox_none s a hf⟩
    | some y => exact ⟨_, exec_ftox_some s a hf⟩
  | genNoise voice a b =>
    cases hv : s.voiceAt voice with
    | none => exact ⟨_, exec_genNoise_missing s a b voice hv⟩
    | some x =>
      by_cases hd : noiseDen (noiseVoice x) a = 0
      · exact ⟨_, exec_genNoise_open s a b voice hv hd⟩
      · exact ⟨_, exec_genNoise s a b voice hv hd⟩
  | _ => exact ⟨_, rfl⟩

/-! ### The voice a command works on -/

namespace State
variable (s : State) (v : Byte) (x : Voice) (y : Word)

@[simp] theorem voiceAt_respond : (s.respond y).voiceAt v = s.voiceAt v := rfl
@[simp] theorem voiceAt_respondInit : (s.respondInit y).voiceAt v = s.voiceAt v := rfl

/-- Reading a voice after a write to it, whether it exists or not (R24, R76). -/
@[simp] theorem voiceAt_setVoice : (s.setVoice v x).voiceAt v = (s.voiceAt v).map fun _ => x :=
  List.getElem?_set_self'

/-- Reading a voice after VSTART on it (R186). -/
@[simp] theorem voiceAt_startVoice :
    (s.startVoice v).voiceAt v = (s.voiceAt v).map fun _ => Voice.started :=
  voiceAt_setVoice s v Voice.started

/-- VSTOP on a missing voice (R187). -/
theorem stopVoice_missing {s : State} {v : Byte} (h : s.voiceAt v = none) : s.stopVoice v = s := by
  simp only [stopVoice, h]

/-- VSTOP on an existing voice (R187). -/
theorem stopVoice_existing {s : State} {v : Byte} {x : Voice} (h : s.voiceAt v = some x) :
    s.stopVoice v = s.setVoice v { x with active := false } := by
  simp only [stopVoice, h]

/-- Reading a voice after VSTOP on it (R187). -/
@[simp] theorem voiceAt_stopVoice :
    (s.stopVoice v).voiceAt v = (s.voiceAt v).map fun x => { x with active := false } := by
  cases h : s.voiceAt v with
  | none => rw [stopVoice_missing h, h, Option.map_none]
  | some x => rw [stopVoice_existing h, voiceAt_setVoice, h, Option.map_some, Option.map_some]

end State

section OwnCommands
variable {v w : Byte} {a b : Word} {i : Instr} {s s' t t' : State}

/-- Where GEN NOISE is specified, its response and the voice it leaves are a function of the operands and of the
voice it finds (R185), also between two voices of different machines. -/
theorem genNoise_agrees (hv : s.voiceAt v = s'.voiceAt w)
    (specified : unspecifiedOn (.genNoise v a b) s = false)
    (h : exec (.genNoise v a b) s = .next t) (h' : exec (.genNoise w a b) s' = .next t') :
    t.response = t'.response ∧ t.voiceAt v = t'.voiceAt w := by
  cases hx : s.voiceAt v with
  | none =>
    rw [exec_genNoise_missing s a b v hx] at h
    rw [exec_genNoise_missing s' a b w (hv ▸ hx)] at h'
    cases h; cases h'
    exact ⟨rfl, hv⟩
  | some x =>
    have hd : noiseDen (noiseVoice x) a ≠ 0 := by
      simpa [unspecifiedOn_genNoise a b hx] using specified
    rw [exec_genNoise s a b v hx hd] at h
    rw [exec_genNoise s' a b w (hv ▸ hx) hd] at h'
    cases h; cases h'
    exact ⟨rfl, by simp [hv]⟩

/-- A specified command that touches voice `v` answers, and leaves `v`, as a function of what it finds in `v` (R25,
R185). -/
theorem exec_agrees_of_touches (own : touches v i = true) (hv : s.voiceAt v = s'.voiceAt v)
    (specified : unspecifiedOn i s = false) (h : exec i s = .next t) (h' : exec i s' = .next t') :
    t.response = t'.response ∧ t.voiceAt v = t'.voiceAt v := by
  cases i with
  | genNoise w a b =>
    obtain rfl : w = v := of_decide_eq_true own
    exact genNoise_agrees hv specified h h'
  | vstart w =>
    obtain rfl : w = v := of_decide_eq_true own
    cases h; cases h'
    exact ⟨rfl, by simp [hv]⟩
  | vstop w =>
    obtain rfl : w = v := of_decide_eq_true own
    cases h; cases h'
    exact ⟨rfl, by simp [hv]⟩
  | _ => cases own

/-- A command that does not touch voice `v` leaves it as it was (R25). -/
theorem exec_voiceAt_of_untouched (other : touches v i = false) (h : exec i s = .next t) :
    t.voiceAt v = s.voiceAt v := by
  by_cases hvi : v = i.voice
  · rw [State.voiceAt, exec_voices_of_untouched h (.inl (hvi ▸ other)), State.voiceAt]
  · exact exec_voices_other h (mt BitVec.eq_of_toNat_eq hvi)

/-! ### The responses to the commands of one voice -/

variable {is : List Instr}

/-- A command of voice `v` contributes its response (R56). -/
theorem voiceResponses_of_touches (own : touches v i = true) (h : exec i s = .next t) :
    voiceResponses v (i :: is) s = t.response :: voiceResponses v is t := by
  simp only [voiceResponses, h, own, if_true]

/-- Any other command contributes none. -/
theorem voiceResponses_of_untouched (other : touches v i = false) (h : exec i s = .next t) :
    voiceResponses v (i :: is) s = voiceResponses v is t := by
  simp only [voiceResponses, h, other, Bool.false_eq_true, if_false]

/-- The commands of voice `v` get the same responses with and without the others between them, from any two states
that agree in voice `v`: the two runs differ in `INIT_DONE`, in the other voices and in the draws (R25, R185). -/
theorem voiceResponses_filter (hv : s.voiceAt v = s'.voiceAt v)
    (specified : allSpecified (is.filter (touches v)) s') :
    voiceResponses v is s = voiceResponses v (is.filter (touches v)) s' := by
  induction is generalizing s s' with
  | nil => rfl
  | cons i is ih =>
    obtain ⟨t, h⟩ := exec_completes i s
    cases own : touches v i with
    | false =>
      rw [List.filter_cons_of_neg (by simp [own])] at specified ⊢
      rw [voiceResponses_of_untouched own h]
      exact ih ((exec_voiceAt_of_untouched own h).trans hv) specified
    | true =>
      rw [List.filter_cons_of_pos own] at specified ⊢
      obtain ⟨t', h'⟩ := exec_completes i s'
      obtain ⟨specifiedHead, specifiedTail⟩ := specified
      obtain ⟨hresponse, hvoice⟩ := exec_agrees_of_touches own hv.symm specifiedHead h' h
      rw [voiceResponses_of_touches own h, voiceResponses_of_touches own h', hresponse,
        ih hvoice.symm (specifiedTail t' h')]

end OwnCommands

/-! ### Voice files that differ at most in the words of inactive voices -/

section SameVoice
variable {x x' : Voice} {vs vs' : List Voice}

theorem sameVoice_refl (x : Voice) : sameVoice x x := .inl rfl

/-- The `ACTIVE` bit of a voice can be observed (R26). -/
theorem sameVoice.active_eq (h : sameVoice x x') : x.active = x'.active := by
  obtain rfl | ⟨inactive, inactive'⟩ := h
  · rfl
  · rw [inactive, inactive']

/-- GEN NOISE does not see the words of an inactive voice: it starts the voice first (R31, R186). -/
theorem sameVoice.noiseVoice_eq (h : sameVoice x x') : noiseVoice x = noiseVoice x' := by
  obtain rfl | ⟨inactive, inactive'⟩ := h
  · rfl
  · simp only [noiseVoice, inactive, inactive', Bool.false_eq_true, if_false]

/-- Reading the same entry of two such voice files: both have none, or both have the same voice to the host. -/
theorem sameVoice_getElem? (h : List.Forall₂ sameVoice vs vs') (n : Nat) :
    (vs[n]? = none ∧ vs'[n]? = none) ∨
      ∃ x x', vs[n]? = some x ∧ vs'[n]? = some x' ∧ sameVoice x x' := by
  induction h generalizing n with
  | nil => exact .inl ⟨rfl, rfl⟩
  | cons hx _ ih =>
    cases n with
    | zero => exact .inr ⟨_, _, rfl, rfl, hx⟩
    | succ n => exact ih n

/-- Writing the same entry of two such voice files. -/
theorem sameVoice_set (h : List.Forall₂ sameVoice vs vs') (hx : sameVoice x x') (n : Nat) :
    List.Forall₂ sameVoice (vs.set n x) (vs'.set n x') := by
  induction h generalizing n with
  | nil => exact .nil
  | cons hy htail ih =>
    cases n with
    | zero => exact .cons hx htail
    | succ n => exact .cons hy (ih n)

/-- `STATUS` shows no word of a voice (R26). -/
theorem activeBits_eq_of_sameVoice (h : List.Forall₂ sameVoice vs vs') (k : Nat) :
    activeBits vs k = activeBits vs' k := by
  induction h generalizing k with
  | nil => rfl
  | cons hx _ ih => rw [activeBits, activeBits, hx.active_eq, ih]

/-- A voice file with no active voice shows no bit in `STATUS` (R26). -/
theorem activeBits_of_inactive (h : ∀ x ∈ vs, x.active = false) (k : Nat) : activeBits vs k = 0 := by
  induction vs generalizing k with
  | nil => rfl
  | cons x vs ih =>
    obtain ⟨hx, hvs⟩ := List.forall_mem_cons.mp h
    simp [activeBits, hx, ih hvs]

end SameVoice

/-! ### `sameVisible` under each shared operation -/

namespace sameVisible
variable {s s' : State} {x x' : Voice}

theorem voices_rel (h : sameVisible s s') : List.Forall₂ sameVoice s.voices s'.voices := h.2.1
theorem inbox_eq (h : sameVisible s s') : s.inbox = s'.inbox := h.2.2.2.1
theorem draws_eq (h : sameVisible s s') : s.draws = s'.draws := h.2.2.2.2

theorem voiceAt_cases (h : sameVisible s s') (v : Byte) :
    (s.voiceAt v = none ∧ s'.voiceAt v = none) ∨
      ∃ x x', s.voiceAt v = some x ∧ s'.voiceAt v = some x' ∧ sameVoice x x' :=
  sameVoice_getElem? h.voices_rel v.toNat

theorem statusWord_eq (h : sameVisible s s') : statusWord s = statusWord s' := by
  obtain ⟨hinit, hvoices, -⟩ := h
  rw [statusWord, statusWord, hinit, activeBits_eq_of_sameVoice hvoices]

/-- Both states draw the same free words (log entry 2). -/
theorem freeWord_eq (h : sameVisible s s') (site : Config.FreeSite) (a b : Word) :
    s.freeWord site a b = s'.freeWord site a b := by
  rw [State.freeWord, State.freeWord, h.draws_eq]

theorem takeRest (h : sameVisible s s') (rest : List HostInput) :
    sameVisible { s with inbox := rest } { s' with inbox := rest } := by
  obtain ⟨hinit, hvoices, hresponse, -, hdraws⟩ := h
  exact ⟨hinit, hvoices, hresponse, rfl, hdraws⟩

theorem idle (h : sameVisible s s') : sameVisible s.idle s'.idle := by
  obtain ⟨hinit, hvoices, -, hinbox, hdraws⟩ := h
  exact ⟨hinit, hvoices, rfl, hinbox, hdraws⟩

theorem respond (h : sameVisible s s') (y : Word) : sameVisible (s.respond y) (s'.respond y) := by
  obtain ⟨hinit, hvoices, -, hinbox, hdraws⟩ := h
  exact ⟨hinit, hvoices, rfl, hinbox, hdraws⟩

theorem markInit (h : sameVisible s s') : sameVisible s.markInit s'.markInit := by
  obtain ⟨-, hvoices, hresponse, hinbox, hdraws⟩ := h
  exact ⟨rfl, hvoices, hresponse, hinbox, hdraws⟩

theorem respondInit (h : sameVisible s s') (y : Word) :
    sameVisible (s.respondInit y) (s'.respondInit y) := h.markInit.respond y

theorem drawn (h : sameVisible s s') : sameVisible s.drawn s'.drawn := by
  obtain ⟨hinit, hvoices, hresponse, hinbox, hdraws⟩ := h
  exact ⟨hinit, hvoices, hresponse, hinbox, congrArg (· + 1) hdraws⟩

theorem respondFree (h : sameVisible s s') (site : Config.FreeSite) (a b : Word) :
    sameVisible (s.respondFree site a b) (s'.respondFree site a b) := by
  rw [State.respondFree, State.respondFree, h.freeWord_eq]
  exact h.drawn.respond _

theorem setVoice (h : sameVisible s s') (v : Byte) (hx : sameVoice x x') :
    sameVisible (s.setVoice v x) (s'.setVoice v x') := by
  obtain ⟨hinit, hvoices, hresponse, hinbox, hdraws⟩ := h
  exact ⟨hinit, sameVoice_set hvoices hx v.toNat, hresponse, hinbox, hdraws⟩

theorem startVoice (h : sameVisible s s') (v : Byte) :
    sameVisible (s.startVoice v) (s'.startVoice v) := h.setVoice v (sameVoice_refl _)

/-- VSTOP leaves the words of the voice, which are then no longer visible (R187, log entry 8). -/
theorem stopVoice (h : sameVisible s s') (v : Byte) :
    sameVisible (s.stopVoice v) (s'.stopVoice v) := by
  obtain ⟨hx, hx'⟩ | ⟨x, x', hx, hx', -⟩ := h.voiceAt_cases v
  · rwa [State.stopVoice_missing hx, State.stopVoice_missing hx']
  · rw [State.stopVoice_existing hx, State.stopVoice_existing hx']
    exact h.setVoice v (.inr ⟨rfl, rfl⟩)

theorem hostReset (h : sameVisible s s') (cut : Option Packet) :
    sameVisible (s.hostReset cut) (s'.hostReset cut) := by
  have hvoices : List.Forall₂ sameVoice (s.hostReset cut).voices (s'.hostReset cut).voices := by
    rw [State.hostReset_voices, State.hostReset_voices, h.voices_rel.length_eq]
    exact List.forall₂_same.mpr fun x _ => sameVoice_refl x
  cases cut with
  | none => exact ⟨rfl, hvoices, rfl, h.inbox_eq, h.draws_eq⟩
  | some p =>
    exact ⟨rfl, hvoices, by simp [h.draws_eq], h.inbox_eq, congrArg (· + 1) h.draws_eq⟩

end sameVisible

/-! ### `sameVisible` under every command -/

section SameVisibleCommand
variable {s s' t t' : State} {a b : Word} {voice : Byte} {i : Instr}

/-- GEN NOISE: both runs work on the same started voice, and in the case of U4 store and answer the same free words. -/
theorem sameVisible_genNoise (hs : sameVisible s s') (h : exec (.genNoise voice a b) s = .next t)
    (h' : exec (.genNoise voice a b) s' = .next t') : sameVisible t t' := by
  obtain ⟨hx, hx'⟩ | ⟨x, x', hx, hx', hxx⟩ := hs.voiceAt_cases voice
  · rw [exec_genNoise_missing s a b voice hx] at h
    rw [exec_genNoise_missing s' a b voice hx'] at h'
    cases h; cases h'
    exact hs.respondInit 0
  · by_cases hd : noiseDen (noiseVoice x) a = 0
    · rw [exec_genNoise_open s a b voice hx hd, hxx.noiseVoice_eq, hs.freeWord_eq] at h
      rw [exec_genNoise_open s' a b voice hx' (hxx.noiseVoice_eq ▸ hd)] at h'
      cases h; cases h'
      exact (hs.markInit.setVoice voice (sameVoice_refl _)).drawn.respondFree .noiseResponse a b
    · rw [exec_genNoise s a b voice hx hd, hxx.noiseVoice_eq] at h
      rw [exec_genNoise s' a b voice hx' (hxx.noiseVoice_eq ▸ hd)] at h'
      cases h; cases h'
      exact (hs.setVoice voice (sameVoice_refl _)).respondInit _

/-- Every command keeps two states the same to the host (R31). -/
theorem sameVisible_exec (hs : sameVisible s s') (h : exec i s = .next t) (h' : exec i s' = .next t') :
    sameVisible t t' := by
  cases i with
  | init =>
    cases h; cases h'
    exact hs.markInit.respond 0
  | stat =>
    rw [exec_stat] at h h'
    cases h; cases h'
    rw [hs.statusWord_eq]
    exact hs.respond _
  | add | sub | mul | lerp | itox | xtoi | xtof =>
    cases h; cases h'
    exact hs.respond _
  | frac | fabs | sin | div7 | div183 | freq | floor | muli | min | max | clamp | genTriangle
  | genTiltedSaw | genSaw | genSquare | genPulse | genOrgan | genPhaser | genUnk8 | genUnk16 | genUnk32
  | genUnk64 | genUnk128 =>
    cases h; cases h'
    exact hs.respondInit _
  | div a b =>
    by_cases hb : S b = 0
    · rw [exec_div_zero _ a b hb] at h h'
      cases h; cases h'
      exact hs.respondFree .div a b
    · rw [exec_div_nonzero _ a b hb] at h h'
      cases h; cases h'
      exact hs.respond _
  | divi a b =>
    by_cases hb : S b = 0
    · rw [exec_divi_zero _ a b hb] at h h'
      cases h; cases h'
      exact hs.markInit.respondFree .divi a b
    · rw [exec_divi_nonzero _ a b hb] at h h'
      cases h; cases h'
      exact hs.respondInit _
  | ftox a =>
    cases hf : ftoxVal a with
    | none =>
      rw [exec_ftox_none _ a hf] at h h'
      cases h; cases h'
      exact hs.respondFree .ftox a 0
    | some y =>
      rw [exec_ftox_some _ a hf] at h h'
      cases h; cases h'
      exact hs.respond y
  | genNoise voice a b => exact sameVisible_genNoise hs h h'
  | vstart voice =>
    cases h; cases h'
    exact (hs.startVoice voice).respond 0
  | vstop voice =>
    cases h; cases h'
    exact (hs.stopVoice voice).respond 0

end SameVisibleCommand

/-! ### The statements of the family, settled by the lemmas above -/

/-- Settles O59: the two runs take the same input, and each kind of step keeps `sameVisible`. -/
theorem inactiveVoiceWordsAreUnobservable : Obligations.InactiveVoiceWordsAreUnobservable := by
  intro s s' t t' hs h h'
  have hin := hs.inbox_eq
  obtain ⟨hnil, rfl⟩ | ⟨cut, rest, hcons, rfl⟩ | ⟨p, rest, r, hcons, hd, rfl⟩ |
    ⟨p, rest, i, hcons, hd, he⟩ := step_cases h
  · rw [step_of_nil (hin ▸ hnil)] at h'
    cases h'
    exact hs.idle
  · rw [step_of_reset (hin ▸ hcons)] at h'
    cases h'
    exact (hs.takeRest rest).hostReset cut
  · rw [step_of_reserved (hin ▸ hcons) hd] at h'
    cases h'
    exact (hs.takeRest rest).respond 0
  · rw [step_of_command (hin ▸ hcons) hd] at h'
    exact sameVisible_exec (hs.takeRest rest) he h'

/-- What a command makes of `INIT_DONE` (R23, R140, R170). -/
theorem exec_initDone {i : Instr} {s t : State} (h : exec i s = .next t) :
    t.initDone = (s.initDone || setsInit i) := by
  cases exec_effect h with
  | answer _ init | answerFree _ init | writeVoice _ _ init | writeVoiceFree _ _ init => exact init

/-- Settles O55, from what a command makes of `INIT_DONE` and all that a step can be. -/
theorem initDoneIsSetOnceAndKept : Obligations.InitDoneIsSetOnceAndKept := by
  refine ⟨fun _ _ _ => exec_initDone, fun s t hset h => ?_⟩
  obtain ⟨_, rfl⟩ | ⟨cut, rest, hreset, _⟩ | ⟨_, _, _, _, _, rfl⟩ | ⟨_, _, _, _, _, he⟩ := step_cases h
  · exact .inl hset
  · exact .inr ⟨cut, rest, hreset⟩
  · exact .inl hset
  · left
    rw [exec_initDone he]
    exact Bool.or_eq_true_iff.mpr (.inl hset)

/-- Settles O57: both runs start from the same state. -/
theorem interleavingDoesNotReachAVoice : Obligations.InterleavingDoesNotReachAVoice :=
  fun _ _ _ => voiceResponses_filter rfl

/-- Settles O9: a new voice file is `n` copies of the reset voice, which is not active. -/
theorem powerOnStateIsTheResetState : Obligations.PowerOnStateIsTheResetState := by
  intro n
  have hreset (x : Voice) (hx : x ∈ (State.resetWith n).voices) : x = Voice.reset :=
    List.eq_of_mem_replicate hx
  refine ⟨rfl, List.length_replicate, fun x hx => ?_, rfl, ?_⟩
  · rw [hreset x hx]
    exact ⟨rfl, rfl, rfl, rfl⟩
  · have hbits : activeBits (State.resetWith n).voices 16 = 0 :=
      activeBits_of_inactive (fun x hx => by rw [hreset x hx]; rfl) 16
    rw [statusWord, hbits]
    exact BitVec.or_zero

end Sys2Proof.Machine

/-! SUPPORT. The ROM as R40, R42, R45 and R50 describe it: the read of the nearest entry, and the checks of the literals. -/

namespace Sys2Proof.Machine

/-- The index `clampidx` picks is the nearest one of the bank (R42). -/
theorem clampidx_eq_nearest (i : Int) (n : Nat) : clampidx i n = (max 0 (min i ((n : Int) - 1))).toNat := by
  unfold clampidx
  split
  case isTrue hbelow => omega
  case isFalse hlow =>
    split
    case isTrue habove => omega
    case isFalse hhigh => rw [min_eq_left (not_lt.mp hhigh), max_eq_right (not_lt.mp hlow)]

/-- The default of `romRead` is never read: the clamped index holds what it answers (R52). -/
theorem getElem?_clampidx (bank : Bank) (i : Int) :
    bank.entries[clampidx i bank.size]? = some (romRead bank i) := by
  have hlt : clampidx i bank.size < bank.entries.length := entries_length bank ▸ clampidx_lt i bank
  rw [romRead, List.getD_eq_getElem _ _ hlt, List.getElem?_eq_getElem hlt]

/-- Settles O20: the nearest index is the clamped one, which is inside the bank. -/
theorem romReadStaysInItsBank : Obligations.RomReadStaysInItsBank := by
  refine ⟨entries_length .FREQ, entries_length .SIN, entries_length .FMOD, entries_length .ABS,
    entries_length .DIV7, entries_length .DIV183, fun bank i => ?_⟩
  rw [entries_length, ← clampidx_eq_nearest]
  exact getElem?_clampidx bank i

/-- The checksum of a bank (R50). -/
def Bank.checksum : Bank → Int
  | .FREQ => 2834250382
  | .SIN => 0
  | .FMOD => 3243984
  | .ABS => 6619040
  | .DIV7 => 262141
  | .DIV183 => 11688918

set_option maxRecDepth 20000 in
/-- The entries of each bank add up to its checksum (R50). -/
theorem entries_sum (bank : Bank) : bank.entries.sum = bank.checksum := by
  cases bank <;> decide

set_option maxRecDepth 20000 in
/-- The magnitudes of `SIN_ROM` add up to their checksum (R50). -/
theorem sinRom_sum_natAbs : (sinRom.map fun x => (x.natAbs : Int)).sum = 10680068 := by
  decide

set_option maxRecDepth 20000 in
/-- An octave doubles a frequency, up to the truncated bit (R50). -/
theorem freqRom_octave : ∀ k ≤ 51, freqRom.getD (k + 12) 0 = 2 * freqRom.getD k 0 ∨
    freqRom.getD (k + 12) 0 = 2 * freqRom.getD k 0 + 1 := by
  decide

set_option maxRecDepth 20000 in
/-- Half a cycle later the sine is negated (R45). -/
theorem sinRom_odd : ∀ i < 128, sinRom.getD (i + 128) 0 = -sinRom.getD i 0 := by
  decide

set_option maxRecDepth 20000 in
/-- The half cycle reads the same from both ends (R45). -/
theorem sinRom_mirror : ∀ i < 128, 1 ≤ i → sinRom.getD (128 - i) 0 = sinRom.getD i 0 := by
  decide

/-- Settles O21, from the checksum of each bank and the relations between its entries. -/
theorem romLiteralsPassTheirChecks : Obligations.RomLiteralsPassTheirChecks :=
  ⟨entries_sum .FREQ, entries_sum .SIN, sinRom_sum_natAbs, entries_sum .FMOD, entries_sum .ABS,
    entries_sum .DIV7, entries_sum .DIV183, freqRom_octave, sinRom_odd, sinRom_mirror⟩

end Sys2Proof.Machine

/-! SUPPORT. The decoder and the encoder as inverses (R71, R75, R78), the reserved words (R77), and the rows of the
opcode table against the decoder (R78). -/

namespace Sys2Proof

/-! ### The command word and its four fields -/

/-- A command word is determined by its four fields (R71). -/
theorem word_ext {w w' : Word} (hop : cmdOpcode w = cmdOpcode w') (hsel : cmdSel w = cmdSel w')
    (hvoice : cmdVoice w = cmdVoice w') (hrsv : cmdRsv w = cmdRsv w') : w = w' := by
  simp only [cmdOpcode, cmdSel, cmdVoice, cmdRsv, ← BitVec.toNat_inj, BitVec.extractLsb'_toNat,
    Nat.shiftRight_eq_div_pow] at hop hsel hvoice hrsv
  apply BitVec.eq_of_toNat_eq
  omega

/-- A command word with `rsv = 0` is the one built from its own fields (R71). -/
theorem cmdWord_fields {w : Word} (h : cmdRsv w = 0) : cmdWord (cmdOpcode w) (cmdSel w) (cmdVoice w) = w :=
  word_ext (cmdOpcode_cmdWord ..) (cmdSel_cmdWord ..) (cmdVoice_cmdWord ..)
    ((cmdRsv_cmdWord ..).trans h.symm)

/-! ### GEN and its instrument -/

section Gen
variable {sel : Byte} (voice : Byte) (a b : Word)

/-- From 8 on, the row of an unknown instrument is chosen by the range of `sel` alone (R75, R179). -/
theorem genOf_unknown (h : 8 ≤ sel.toNat) :
    genOf sel voice a b =
      if sel.toNat < 16 then .genUnk8 sel voice
      else if sel.toNat < 32 then .genUnk16 sel voice
      else if sel.toNat < 64 then .genUnk32 sel voice
      else if sel.toNat < 128 then .genUnk64 sel voice
      else .genUnk128 sel voice := by
  have unknown (n : Byte) (hn : n.toNat < 8) : sel ≠ n := by
    rintro rfl
    omega
  rw [genOf, if_neg (unknown 0 (by decide)), if_neg (unknown 1 (by decide)), if_neg (unknown 2 (by decide)),
    if_neg (unknown 3 (by decide)), if_neg (unknown 4 (by decide)), if_neg (unknown 5 (by decide)),
    if_neg (unknown 6 (by decide)), if_neg (unknown 7 (by decide))]

/-! Each row of an unknown instrument is read on its own range of `sel` (R75, R179). -/

theorem genOf_unk8 (lo : 8 ≤ sel.toNat) (hi : sel.toNat < 16) : genOf sel voice a b = .genUnk8 sel voice := by
  rw [genOf_unknown voice a b lo, if_pos hi]

theorem genOf_unk16 (lo : 16 ≤ sel.toNat) (hi : sel.toNat < 32) : genOf sel voice a b = .genUnk16 sel voice := by
  rw [genOf_unknown voice a b (by omega), if_neg (by omega), if_pos hi]

theorem genOf_unk32 (lo : 32 ≤ sel.toNat) (hi : sel.toNat < 64) : genOf sel voice a b = .genUnk32 sel voice := by
  rw [genOf_unknown voice a b (by omega), if_neg (by omega), if_neg (by omega), if_pos hi]

theorem genOf_unk64 (lo : 64 ≤ sel.toNat) (hi : sel.toNat < 128) : genOf sel voice a b = .genUnk64 sel voice := by
  rw [genOf_unknown voice a b (by omega), if_neg (by omega), if_neg (by omega), if_neg (by omega), if_pos hi]

theorem genOf_unk128 (lo : 128 ≤ sel.toNat) : genOf sel voice a b = .genUnk128 sel voice := by
  rw [genOf_unknown voice a b (by omega), if_neg (by omega), if_neg (by omega), if_neg (by omega),
    if_neg (by omega)]

variable (sel)

/-- Whatever holds of GEN's instruction for each of the eight known instruments and for each of the five ranges of
unknown ones holds for every `sel` (R75). -/
theorem genOf_cases {P : Byte → Instr → Prop}
    (triangle : P 0 (.genTriangle voice a)) (tiltedSaw : P 1 (.genTiltedSaw voice a))
    (saw : P 2 (.genSaw voice a)) (square : P 3 (.genSquare voice a)) (pulse : P 4 (.genPulse voice a))
    (organ : P 5 (.genOrgan voice a)) (noise : P 6 (.genNoise voice a b)) (phaser : P 7 (.genPhaser voice a))
    (unk8 : ∀ sel : Byte, 8 ≤ sel.toNat → sel.toNat < 16 → P sel (.genUnk8 sel voice))
    (unk16 : ∀ sel : Byte, 16 ≤ sel.toNat → sel.toNat < 32 → P sel (.genUnk16 sel voice))
    (unk32 : ∀ sel : Byte, 32 ≤ sel.toNat → sel.toNat < 64 → P sel (.genUnk32 sel voice))
    (unk64 : ∀ sel : Byte, 64 ≤ sel.toNat → sel.toNat < 128 → P sel (.genUnk64 sel voice))
    (unk128 : ∀ sel : Byte, 128 ≤ sel.toNat → P sel (.genUnk128 sel voice)) :
    P sel (genOf sel voice a b) := by
  by_cases known : sel.toNat < 8
  · have hsel : sel = 0 ∨ sel = 1 ∨ sel = 2 ∨ sel = 3 ∨ sel = 4 ∨ sel = 5 ∨ sel = 6 ∨ sel = 7 := by bv_omega
    rcases hsel with rfl | rfl | rfl | rfl | rfl | rfl | rfl | rfl <;> assumption
  · rw [genOf_unknown voice a b (not_lt.mp known)]
    split_ifs with h₁₆ h₃₂ h₆₄ h₁₂₈
    · exact unk8 sel (not_lt.mp known) h₁₆
    · exact unk16 sel (not_lt.mp h₁₆) h₃₂
    · exact unk32 sel (not_lt.mp h₃₂) h₆₄
    · exact unk64 sel (not_lt.mp h₆₄) h₁₂₈
    · exact unk128 sel (not_lt.mp h₁₂₈)

/-- GEN with any instrument is the operation GEN with that `sel` and `voice` (R75, R76). -/
theorem genOf_fields : (genOf sel voice a b).op = .GEN ∧ (genOf sel voice a b).sel = sel ∧
    (genOf sel voice a b).voice = voice := by
  apply genOf_cases (P := fun sel i => i.op = .GEN ∧ i.sel = sel ∧ i.voice = voice) <;> intros <;>
    exact ⟨rfl, rfl, rfl⟩

end Gen

/-! ### Encoding, then decoding -/

/-- Only GEN uses `sel` (R72). -/
theorem sel_eq_zero {i : Instr} (notGen : i.op.format ≠ .G) : i.sel = 0 := by
  cases i with
  | genTriangle | genTiltedSaw | genSaw | genSquare | genPulse | genOrgan | genNoise | genPhaser
  | genUnk8 | genUnk16 | genUnk32 | genUnk64 | genUnk128 => exact absurd rfl notGen
  | _ => rfl

/-- Only GEN, VSTART and VSTOP use `voice` (R72). -/
theorem voice_eq_zero {i : Instr} (notGen : i.op.format ≠ .G) (notV : i.op.format ≠ .V) : i.voice = 0 := by
  cases i with
  | genTriangle | genTiltedSaw | genSaw | genSquare | genPulse | genOrgan | genNoise | genPhaser
  | genUnk8 | genUnk16 | genUnk32 | genUnk64 | genUnk128 => exact absurd rfl notGen
  | vstart | vstop => exact absurd rfl notV
  | _ => rfl

/-- The range check of a row for unknown instruments (R75). -/
theorem selBetween_iff {lo hi : Nat} {sel : Byte} :
    selBetween lo hi sel = true ↔ lo ≤ sel.toNat ∧ sel.toNat ≤ hi := by
  simp [selBetween]

/-- A well-formed GEN instruction is the one GEN reads from its `sel`, `voice` and operands (R75). -/
theorem genOf_of_wellFormed {i : Instr} (isGen : i.op = .GEN) (wf : i.wellFormed = true) :
    genOf i.sel i.voice i.operands.1 i.operands.2.1 = i := by
  cases i with
  | genTriangle | genTiltedSaw | genSaw | genSquare | genPulse | genOrgan | genNoise | genPhaser => rfl
  | genUnk8 =>
    obtain ⟨lo, hi⟩ := selBetween_iff.mp wf
    exact genOf_unk8 _ _ _ lo (Nat.lt_succ_of_le hi)
  | genUnk16 =>
    obtain ⟨lo, hi⟩ := selBetween_iff.mp wf
    exact genOf_unk16 _ _ _ lo (Nat.lt_succ_of_le hi)
  | genUnk32 =>
    obtain ⟨lo, hi⟩ := selBetween_iff.mp wf
    exact genOf_unk32 _ _ _ lo (Nat.lt_succ_of_le hi)
  | genUnk64 =>
    obtain ⟨lo, hi⟩ := selBetween_iff.mp wf
    exact genOf_unk64 _ _ _ lo (Nat.lt_succ_of_le hi)
  | genUnk128 =>
    obtain ⟨lo, -⟩ := selBetween_iff.mp wf
    exact genOf_unk128 _ _ _ lo
  | _ => cases isGen

/-- Reading the fields back from the packet of a well-formed instruction gives the instruction (R72, R78). -/
theorem instrOf_encode {i : Instr} (wf : i.wellFormed = true) : instrOf i.op (encode i) = i := by
  by_cases isGen : i.op = .GEN
  · rw [isGen, instrOf, encode, cmdSel_cmdWord, cmdVoice_cmdWord]
    exact genOf_of_wellFormed isGen wf
  · cases i with
    | genTriangle | genTiltedSaw | genSaw | genSquare | genPulse | genOrgan | genNoise | genPhaser
    | genUnk8 | genUnk16 | genUnk32 | genUnk64 | genUnk128 => exact absurd rfl isGen
    | vstart voice => exact congrArg Instr.vstart (cmdVoice_cmdWord ..)
    | vstop voice => exact congrArg Instr.vstop (cmdVoice_cmdWord ..)
    | _ => rfl

/-- Settles O1: the encoded word has no reserved field set, and its fields are those of the instruction. -/
theorem decodeOfEncode : Obligations.DecodeOfEncode := by
  intro i wf
  have hdecode : decode (encode i) = .ok (instrOf i.op (encode i)) :=
    decode_of_fields i.op (cmdRsv_cmdWord ..)
      ((congrArg opOfCode (cmdOpcode_cmdWord ..)).trans (opOfCode_code i.op))
      (fun notGen => (cmdSel_cmdWord ..).trans (sel_eq_zero notGen))
      (fun notGen notV => (cmdVoice_cmdWord ..).trans (voice_eq_zero notGen notV))
  rw [hdecode, instrOf_encode wf]

/-! ### Decoding, then encoding -/

/-- The instruction built for an operation is one of that operation (R78). -/
@[simp] theorem op_instrOf (op : Op) (p : Packet) : (instrOf op p).op = op := by
  cases op with
  | GEN => exact (genOf_fields ..).1
  | _ => rfl

/-- The instruction built for an operation has the `sel` of the packet, where an unused field is 0 (R72, R78). -/
theorem sel_instrOf {op : Op} {p : Packet} (unused : op.format ≠ .G → cmdSel p.cmd = 0) :
    (instrOf op p).sel = cmdSel p.cmd := by
  cases op with
  | GEN => exact (genOf_fields ..).2.1
  | _ => exact (unused (by decide)).symm

/-- The instruction built for an operation has the `voice` of the packet, where an unused field is 0 (R72, R78). -/
theorem voice_instrOf {op : Op} {p : Packet} (unused : op.format ≠ .G → op.format ≠ .V → cmdVoice p.cmd = 0) :
    (instrOf op p).voice = cmdVoice p.cmd := by
  cases op with
  | GEN => exact (genOf_fields ..).2.2
  | VSTART | VSTOP => rfl
  | _ => exact (unused (by decide) (by decide)).symm

/-- Settles O2: the encoder puts back the four fields that the decoder took from the command word. -/
theorem decodedWordReencodes : Obligations.DecodedWordReencodes := by
  intro p i h
  refine ⟨wellFormed_of_decode h, ?_⟩
  obtain ⟨hrsv, op, hop, hsel, hvoice, rfl⟩ := decode_eq_ok_iff.mp h
  rw [encode, op_instrOf, sel_instrOf hsel, voice_instrOf hvoice, code_of_opOfCode hop, cmdWord_fields hrsv]

/-! ### The reserved words -/

/-- An opcode is one of the 26 exactly when the map finds its operation (R74). -/
theorem mem_opcodes_iff {code : Byte} :
    code.toNat ∈ Op.all.map (·.code.toNat) ↔ ∃ op, opOfCode code = some op := by
  constructor
  · intro h
    obtain ⟨op, -, hop⟩ := List.mem_map.mp h
    exact ⟨op, BitVec.eq_of_toNat_eq hop ▸ opOfCode_code op⟩
  · rintro ⟨op, hop⟩
    rw [← code_of_opOfCode hop]
    exact List.mem_map_of_mem (by cases op <;> decide)

/-- Only opcode 0x30 has format G (R72, R74). -/
theorem format_eq_G_iff {op : Op} {code : Byte} (h : opOfCode code = some op) :
    op.format = .G ↔ code.toNat = 0x30 := by
  rw [← code_of_opOfCode h]
  cases op <;> decide

/-- Only the opcodes of GEN, VSTART and VSTOP have format G or V (R72, R74). -/
theorem format_eq_G_or_V_iff {op : Op} {code : Byte} (h : opOfCode code = some op) :
    op.format = .G ∨ op.format = .V ↔ code.toNat ∈ [0x30, 0x31, 0x32] := by
  rw [← code_of_opOfCode h]
  cases op <;> decide

end Sys2Proof

namespace Sys2Proof.Machine

/-- Settles O3: an accepted word meets none of the cases (a) to (d), and a word that meets none of them is
accepted. -/
theorem reservedWordsAnswerZero : Obligations.ReservedWordsAnswerZero := by
  refine fun p => ⟨⟨fun reserved => ?_, ?_⟩, fun r s rest hd =>
    ⟨_, step_of_reserved rfl hd, rfl, rfl, rfl, rfl, rfl⟩⟩
  · cases hd : decode p with
    | error r => exact ⟨r, rfl⟩
    | ok i =>
      obtain ⟨hrsv, op, hop, hsel, hvoice, -⟩ := decode_eq_ok_iff.mp hd
      rcases reserved with rsv | opcode | ⟨sel, notGen⟩ | ⟨voice, notGenV⟩
      · exact absurd hrsv rsv
      · exact absurd (mem_opcodes_iff.mpr ⟨op, hop⟩) opcode
      · exact absurd (hsel (mt (format_eq_G_iff hop).mp notGen)) sel
      · obtain ⟨notG, notV⟩ := not_or.mp (mt (format_eq_G_or_V_iff hop).mp notGenV)
        exact absurd (hvoice notG notV) voice
  · rintro ⟨r, hd⟩
    by_contra accepted
    simp only [not_or, not_and_or, not_not] at accepted
    obtain ⟨hrsv, hcode, hsel, hvoice⟩ := accepted
    obtain ⟨op, hop⟩ := mem_opcodes_iff.mp hcode
    have hok := decode_of_fields op hrsv hop
      (fun notG => hsel.resolve_right (mt (format_eq_G_iff hop).mpr notG))
      (fun notG notV => hvoice.resolve_right (mt (format_eq_G_or_V_iff hop).mpr (not_or.mpr ⟨notG, notV⟩)))
    rw [hok] at hd
    cases hd

/-! ### The rows of the opcode table -/

/-- A word meets a mask and match pair exactly when each of its four fields does. -/
theorem and_eq_iff_fields {w mask row : Word} :
    w &&& mask = row ↔
      cmdOpcode w &&& cmdOpcode mask = cmdOpcode row ∧ cmdSel w &&& cmdSel mask = cmdSel row ∧
        cmdVoice w &&& cmdVoice mask = cmdVoice row ∧ cmdRsv w &&& cmdRsv mask = cmdRsv row := by
  simp only [cmdOpcode, cmdSel, cmdVoice, cmdRsv, ← BitVec.extractLsb'_and]
  constructor
  · rintro rfl
    exact ⟨rfl, rfl, rfl, rfl⟩
  · rintro ⟨hop, hsel, hvoice, hrsv⟩
    exact word_ext hop hsel hvoice hrsv

/-- A `sel` meets the `sel` field of the row of `i` (R78). -/
def selMeetsRow (sel : Byte) (i : Instr) : Prop :=
  sel &&& cmdSel (tableRow i).1 = cmdSel (tableRow i).2

/-- The mask of a row's `voice` field: only the formats G and V leave it free (R72, R78). -/
def voiceMask : Format → Byte
  | .G | .V => 0
  | _ => BitVec.allOnes 8

/-- A `voice` meets its mask exactly when it is 0 or its format uses it (R72). -/
theorem and_voiceMask_iff (f : Format) (voice : Byte) :
    voice &&& voiceMask f = 0 ↔ (f ≠ .G → f ≠ .V → voice = 0) := by
  cases f with
  | G | V => simp [voiceMask]
  | _ => simp only [voiceMask, BitVec.and_allOnes, ne_eq, reduceCtorEq, not_false_eq_true, forall_const]

/-- Apart from `sel`, the fields of every row are given by its operation (R78). -/
theorem tableRow_fields (i : Instr) :
    (cmdOpcode (tableRow i).1 = BitVec.allOnes 8 ∧ cmdOpcode (tableRow i).2 = i.op.code) ∧
    (cmdVoice (tableRow i).1 = voiceMask i.op.format ∧ cmdVoice (tableRow i).2 = 0) ∧
    cmdRsv (tableRow i).1 = BitVec.allOnes 8 ∧ cmdRsv (tableRow i).2 = 0 := by
  cases i <;> simp only [tableRow, Instr.op] <;> decide

/-- A word matches a row exactly when `rsv` is 0, the opcode is that of the row, `sel` meets the row, and `voice` is 0
where the format does not use it (R78). -/
theorem matchesRow_iff {cmd : Word} {i : Instr} :
    matchesRow cmd i ↔ cmdRsv cmd = 0 ∧ cmdOpcode cmd = i.op.code ∧ selMeetsRow (cmdSel cmd) i ∧
      (i.op.format ≠ .G → i.op.format ≠ .V → cmdVoice cmd = 0) := by
  obtain ⟨⟨opMask, opRow⟩, ⟨vMask, vRow⟩, rsvMask, rsvRow⟩ := tableRow_fields i
  rw [matchesRow, and_eq_iff_fields, opMask, opRow, vMask, vRow, rsvMask, rsvRow, BitVec.and_allOnes,
    BitVec.and_allOnes, and_voiceMask_iff, ← selMeetsRow]
  tauto

/-! ### The `sel` field of a row -/

section SelField
variable {sel s v : Byte}

/-- A row that leaves no bit of `sel` free asks for the `sel` of its instruction (R78). -/
theorem selMeetsRow_iff_eq {i : Instr}
    (hrow : cmdSel (tableRow i).1 = BitVec.allOnes 8 ∧ cmdSel (tableRow i).2 = i.sel) :
    selMeetsRow sel i ↔ sel = i.sel := by
  rw [selMeetsRow, hrow.1, hrow.2, BitVec.and_allOnes]

/-- Outside GEN a row asks for `sel = 0` (R78). -/
theorem selMeetsRow_iff_of_notGen {i : Instr} (notGen : i.op ≠ .GEN) : selMeetsRow sel i ↔ sel = 0 := by
  cases i with
  | genTriangle | genTiltedSaw | genSaw | genSquare | genPulse | genOrgan | genNoise | genPhaser
  | genUnk8 | genUnk16 | genUnk32 | genUnk64 | genUnk128 => exact absurd rfl notGen
  | _ => exact selMeetsRow_iff_eq (by simp only [tableRow, Instr.sel]; decide)

/-- Masking off the low `k` bits of a byte leaves bit `k` alone exactly in `2^k .. 2^(k+1) - 1`. -/
theorem and_highMask_iff {k : Nat} (hk : k < 8) :
    sel &&& (BitVec.allOnes 8 <<< k) = BitVec.twoPow 8 k ↔ 2 ^ k ≤ sel.toNat ∧ sel.toNat < 2 ^ (k + 1) := by
  have hlt : sel.toNat / 2 ^ k * 2 ^ k < 2 ^ 8 := (Nat.div_mul_le_self ..).trans_lt sel.isLt
  have hpos : 0 < 2 ^ k := by positivity
  rw [← BitVec.shiftLeft_ushiftRight, ← BitVec.toNat_inj, BitVec.toNat_twoPow_of_lt hk, BitVec.toNat_shiftLeft,
    BitVec.toNat_ushiftRight, Nat.shiftLeft_eq, Nat.shiftRight_eq_div_pow, Nat.mod_eq_of_lt hlt,
    Nat.mul_eq_right hpos.ne', Nat.div_eq_iff hpos, pow_succ]
  omega

/-- A row whose mask leaves out the low `k` bits of `sel` and asks for bit `k` alone covers `2^k .. 2^(k+1) - 1`
(R78). -/
theorem selMeetsRow_iff_range {i : Instr} {k : Nat} (hk : k < 8)
    (hrow : cmdSel (tableRow i).1 = BitVec.allOnes 8 <<< k ∧ cmdSel (tableRow i).2 = BitVec.twoPow 8 k) :
    selMeetsRow sel i ↔ 2 ^ k ≤ sel.toNat ∧ sel.toNat < 2 ^ (k + 1) := by
  rw [selMeetsRow, hrow.1, hrow.2, and_highMask_iff hk]

/-! The five rows for unknown instruments (R75, R78). -/

theorem selMeetsRow_genUnk8 : selMeetsRow sel (.genUnk8 s v) ↔ 8 ≤ sel.toNat ∧ sel.toNat < 16 :=
  selMeetsRow_iff_range (k := 3) (by decide) (by simp only [tableRow]; decide)

theorem selMeetsRow_genUnk16 : selMeetsRow sel (.genUnk16 s v) ↔ 16 ≤ sel.toNat ∧ sel.toNat < 32 :=
  selMeetsRow_iff_range (k := 4) (by decide) (by simp only [tableRow]; decide)

theorem selMeetsRow_genUnk32 : selMeetsRow sel (.genUnk32 s v) ↔ 32 ≤ sel.toNat ∧ sel.toNat < 64 :=
  selMeetsRow_iff_range (k := 5) (by decide) (by simp only [tableRow]; decide)

theorem selMeetsRow_genUnk64 : selMeetsRow sel (.genUnk64 s v) ↔ 64 ≤ sel.toNat ∧ sel.toNat < 128 :=
  selMeetsRow_iff_range (k := 6) (by decide) (by simp only [tableRow]; decide)

theorem selMeetsRow_genUnk128 : selMeetsRow sel (.genUnk128 s v) ↔ 128 ≤ sel.toNat ∧ sel.toNat < 256 :=
  selMeetsRow_iff_range (k := 7) (by decide) (by simp only [tableRow]; decide)

end SelField

section GenRow
variable (sel voice : Byte) (a b : Word)

/-- A `sel` meets the row of the instrument that GEN reads from it (R75, R78). -/
theorem selMeetsRow_genOf : selMeetsRow sel (genOf sel voice a b) := by
  apply genOf_cases (P := selMeetsRow)
  case unk8 => exact fun _ lo hi => selMeetsRow_genUnk8.mpr ⟨lo, hi⟩
  case unk16 => exact fun _ lo hi => selMeetsRow_genUnk16.mpr ⟨lo, hi⟩
  case unk32 => exact fun _ lo hi => selMeetsRow_genUnk32.mpr ⟨lo, hi⟩
  case unk64 => exact fun _ lo hi => selMeetsRow_genUnk64.mpr ⟨lo, hi⟩
  case unk128 => exact fun sel lo => selMeetsRow_genUnk128.mpr ⟨lo, sel.isLt⟩
  all_goals exact (selMeetsRow_iff_eq (by simp only [tableRow, Instr.sel]; decide)).mpr rfl

/-- No two rows of GEN share a `sel`: a row that `sel` meets is the row of the instrument that GEN reads from it
(R75, R78). -/
theorem tableRow_genOf {sel : Byte} {j : Instr} (isGen : j.op = .GEN) (h : selMeetsRow sel j) :
    tableRow (genOf sel voice a b) = tableRow j := by
  cases j with
  | genTriangle | genTiltedSaw | genSaw | genSquare | genPulse | genOrgan | genNoise | genPhaser =>
    rw [(selMeetsRow_iff_eq (by simp only [tableRow, Instr.sel]; decide)).mp h]
    rfl
  | genUnk8 =>
    obtain ⟨lo, hi⟩ := selMeetsRow_genUnk8.mp h
    simp only [genOf_unk8 voice a b lo hi, tableRow]
  | genUnk16 =>
    obtain ⟨lo, hi⟩ := selMeetsRow_genUnk16.mp h
    simp only [genOf_unk16 voice a b lo hi, tableRow]
  | genUnk32 =>
    obtain ⟨lo, hi⟩ := selMeetsRow_genUnk32.mp h
    simp only [genOf_unk32 voice a b lo hi, tableRow]
  | genUnk64 =>
    obtain ⟨lo, hi⟩ := selMeetsRow_genUnk64.mp h
    simp only [genOf_unk64 voice a b lo hi, tableRow]
  | genUnk128 =>
    obtain ⟨lo, -⟩ := selMeetsRow_genUnk128.mp h
    simp only [genOf_unk128 voice a b lo, tableRow]
  | _ => cases isGen

end GenRow

/-- The rows with the operation of `j` that `sel` meets are one row (R78). -/
theorem tableRow_instrOf {p : Packet} {j : Instr} (h : selMeetsRow (cmdSel p.cmd) j) :
    tableRow (instrOf j.op p) = tableRow j := by
  by_cases isGen : j.op = .GEN
  · rw [isGen]
    exact tableRow_genOf _ _ _ isGen h
  · cases j with
    | genTriangle | genTiltedSaw | genSaw | genSquare | genPulse | genOrgan | genNoise | genPhaser
    | genUnk8 | genUnk16 | genUnk32 | genUnk64 | genUnk128 => exact absurd rfl isGen
    | _ => rfl

/-- The `sel` of a word meets the row of the instruction built from it, where an unused `sel` is 0 (R72, R78). -/
theorem selMeetsRow_instrOf {op : Op} {p : Packet} (unused : op.format ≠ .G → cmdSel p.cmd = 0) :
    selMeetsRow (cmdSel p.cmd) (instrOf op p) := by
  cases op with
  | GEN => exact selMeetsRow_genOf ..
  | _ => exact (selMeetsRow_iff_of_notGen (by rw [op_instrOf]; decide)).mpr (unused (by decide))

/-- A decoded word matches the row of its instruction (R78). -/
theorem matchesRow_of_decode {p : Packet} {i : Instr} (h : decode p = .ok i) : matchesRow p.cmd i := by
  obtain ⟨hrsv, op, hop, hsel, hvoice, rfl⟩ := decode_eq_ok_iff.mp h
  rw [matchesRow_iff, op_instrOf]
  exact ⟨hrsv, (code_of_opOfCode hop).symm, selMeetsRow_instrOf hsel, hvoice⟩

/-- A word that matches a row decodes, to an instruction of that row (R78). -/
theorem decode_of_matchesRow {p : Packet} {j : Instr} (h : matchesRow p.cmd j) :
    ∃ i, decode p = .ok i ∧ tableRow i = tableRow j := by
  obtain ⟨hrsv, hcode, hsel, hvoice⟩ := matchesRow_iff.mp h
  have sel_unused (notG : j.op.format ≠ .G) : cmdSel p.cmd = 0 :=
    (selMeetsRow_iff_of_notGen fun isGen => notG (isGen ▸ rfl)).mp hsel
  exact ⟨instrOf j.op p, decode_of_fields j.op hrsv (hcode ▸ opOfCode_code j.op) sel_unused hvoice,
    tableRow_instrOf hsel⟩

/-- Settles O4: a word decodes exactly when it matches a row, and then to an instruction of that row. -/
theorem decodeFollowsOpcodeTable : Obligations.DecodeFollowsOpcodeTable := by
  refine ⟨fun _ _ => matchesRow_of_decode, fun p i j hd hmatch => ?_, fun p j hmatch => ?_⟩
  · obtain ⟨i', hd', hrow⟩ := decode_of_matchesRow hmatch
    cases hd.symm.trans hd'
    exact hrow.symm
  · obtain ⟨i, hd, -⟩ := decode_of_matchesRow hmatch
    exact ⟨i, hd⟩

/-! ### Sample words, and voices that do not exist -/

/-- Settles O5, by running the decoder. -/
theorem sampleWordsDecode : Obligations.SampleWordsDecode :=
  ⟨rfl, rfl, rfl, rfl, rfl, rfl, rfl, rfl, rfl, rfl⟩

/-- VSTART on a missing voice (R186). -/
theorem State.startVoice_missing {s : State} {v : Byte} (h : s.voiceAt v = none) : s.startVoice v = s := by
  rw [startVoice, setVoice, List.set_eq_of_length_le ((voiceAt_eq_none_iff s v).mp h)]

/-- Settles O44: GEN NOISE finds no voice to read, and VSTART and VSTOP none to write. -/
theorem missingVoicesAreIgnored : Obligations.MissingVoicesAreIgnored := by
  intro voice a b s h
  have missing : s.voiceAt voice = none := (State.voiceAt_eq_none_iff s voice).mpr h
  refine ⟨⟨_, exec_genNoise_missing s a b voice missing, ?_⟩, ⟨_, exec_vstart s voice, ?_⟩,
    ⟨_, exec_vstop s voice, ?_⟩⟩
  · exact ⟨rfl, rfl, rfl, rfl, rfl⟩
  · rw [State.startVoice_missing missing]
    exact ⟨rfl, rfl, rfl, rfl, rfl⟩
  · rw [State.stopVoice_missing missing]
    exact ⟨rfl, rfl, rfl, rfl, rfl⟩

end Sys2Proof.Machine

/-! SUPPORT. FixedPointCore (R100 to R109): the encodings, the frame of a command that only answers, the arithmetic of
the responses on words, the rounding of DIV, and binary32 numbers in units of 1/65536. -/

namespace Sys2Proof

/-- A command word with no `sel` and no `voice` decodes to the instruction of its opcode (R71, R78). -/
theorem decode_plain (op : Op) {cmd : Word} (a b c : Word) (h : cmd = cmdWord op.code 0 0) :
    decode ⟨cmd, a, b, c⟩ = .ok (instrOf op ⟨cmd, a, b, c⟩) := by
  subst h
  exact decode_of_fields op (cmdRsv_cmdWord ..) (by rw [cmdOpcode_cmdWord]; exact opOfCode_code op)
    (fun _ => cmdSel_cmdWord ..) (fun _ _ => cmdVoice_cmdWord ..)

end Sys2Proof

namespace Sys2Proof.Machine

/-! ### What a command of FixedPointCore leaves behind -/

/-- Answering with `y` changes no state of the unit (R100). -/
theorem answersOnly_respond (s : State) (y : Word) : answersOnly s (s.respond y) y :=
  ⟨rfl, rfl, rfl, rfl, rfl⟩

/-- Answering with an UNSPECIFIED word uses one draw and changes no state of the unit (R12, log entry 5). -/
theorem answersAnyWord_respondFree (s : State) (site : Config.FreeSite) (a b : Word) :
    answersAnyWord s (s.respondFree site a b) s.initDone :=
  ⟨⟨_, rfl⟩, rfl, rfl, rfl, rfl⟩

/-- A command that in every state only answers `y` yields `y` (R181). -/
theorem yields_of_respond {i : Instr} {y : Word} (h : ∀ s, exec i s = .next (s.respond y)) : yields i y :=
  fun s => ⟨s.respond y, h s, State.respond_response s y⟩

/-! ### The responses as arithmetic on words -/

/-- ADD is the addition of words (R101). -/
theorem addVal_eq (a b : Word) : addVal a b = a + b := by
  rw [addVal, narrow, BitVec.ofInt_add]
  exact congrArg₂ (· + ·) (narrow_S a) (narrow_S b)

/-- SUB is the subtraction of words (R102). -/
theorem subVal_eq (a b : Word) : subVal a b = a - b := by
  apply eq_sub_of_add_eq
  calc subVal a b + b
    _ = narrow (S a - S b) + narrow (S b) := by rw [narrow_S, subVal]
    _ = narrow (S a - S b + S b) := (BitVec.ofInt_add ..).symm
    _ = a := by rw [sub_add_cancel, narrow_S]

/-- Multiplying by 0 gives 0 (R103). -/
theorem mulVal_zero (a : Word) : mulVal a 0 = 0 := by
  rw [mulVal, show S 0 = 0 from rfl, mul_zero]
  rfl

/-- Multiplying by `ONE` gives the operand back (R103). -/
theorem mulVal_ONE (a : Word) : mulVal a ONE = a := by
  rw [mulVal, S_ONE, sra_16, Int.mul_ediv_cancel _ (by decide), narrow_S]

/-- LERP at `t = 0` (R105). -/
theorem lerpVal_zero (a b : Word) : lerpVal a b 0 = a := by
  rw [lerpVal, mulVal_zero, addVal_eq, add_zero]

/-- LERP at `t = 1`: the wraps of SUB and ADD cancel (R105). -/
theorem lerpVal_ONE (a b : Word) : lerpVal a b ONE = b := by
  rw [lerpVal, mulVal_ONE, addVal_eq, subVal_eq, add_sub_cancel]

/-- An arithmetic right shift by 16 is the floor of the division by 65536, by its two bounds (R9, R103). -/
theorem sra_16_bounds (n : Int) : sra n 16 * 65536 ≤ n ∧ n < (sra n 16 + 1) * 65536 := by
  rw [sra_16]
  omega

/-- XTOI is the floor of the value: no floor of a word is too large to fit (R107). -/
theorem S_xtoiVal (a : Word) : S (xtoiVal a) = sra (S a) 16 := by
  have hrange := S_range a
  have hfloor := sra_16_bounds (S a)
  exact S_narrow_of_fits (by omega) (by omega)

/-- XTOI takes back what ITOX made of an integer that fits 16 bits (R106, R107). -/
theorem xtoiVal_itoxVal {a : Word} (lo : -32768 ≤ S a) (hi : S a ≤ 32767) : xtoiVal (itoxVal a) = a := by
  rw [xtoiVal, itoxVal, S_narrow_of_fits (by omega) (by omega), sra_16, Int.mul_ediv_cancel _ (by decide), narrow_S]

/-! ### Rounding toward zero on integers -/

/-- The magnitude of a quotient rounded toward zero is the floor of the quotient of the magnitudes (R9). -/
theorem abs_tdiv_bounds (n : Int) {d : Int} (hd : d ≠ 0) :
    |tdiv n d| * |d| ≤ |n| ∧ |n| < (|tdiv n d| + 1) * |d| := by
  have hq : (tdiv n d).natAbs = n.natAbs / d.natAbs := Int.natAbs_tdiv n d
  simp only [Int.abs_eq_natAbs, hq]
  exact_mod_cast And.intro (Nat.div_mul_le_self n.natAbs d.natAbs)
    (Nat.lt_mul_of_div_lt (Nat.lt_succ_self _) (Int.natAbs_pos.mpr hd))

/-- A quotient rounded toward zero is 0 or has the sign of the exact quotient (R9). -/
theorem tdiv_mul_nonneg (n d : Int) : 0 ≤ tdiv n d * (n * d) := by
  rw [← Int.sign_nonneg_iff, Int.sign_mul, tdiv, Int.sign_tdiv, Int.sign_mul]
  split
  · rw [zero_mul]
  · exact mul_self_nonneg _

/-! ### The obligations on integers -/

/-- Settles O10, by the narrowing of the exact sum and difference. -/
theorem addAndSubWrap : Obligations.AddAndSubWrap := fun a b c s =>
  ⟨decode_plain .ADD a b c rfl, ⟨_, _, exec_add s a b, answersOnly_respond s _, S_narrow _⟩,
    decode_plain .SUB a b c rfl, _, _, exec_sub s a b, answersOnly_respond s _, S_narrow _⟩

/-- Settles O11: the right shift of R103 is a floor. -/
theorem mulFloorsTheProduct : Obligations.MulFloorsTheProduct := by
  intro a b c s
  obtain ⟨lower, upper⟩ := sra_16_bounds (S a * S b)
  exact ⟨decode_plain .MUL a b c rfl, _, _, sra (S a * S b) 16, exec_mul s a b, answersOnly_respond s _,
    lower, upper, S_narrow _⟩

/-- Settles O12, by the magnitude and the sign of the quotient. -/
theorem divTruncatesTowardZero : Obligations.DivTruncatesTowardZero := by
  refine fun a b c s => ⟨decode_plain .DIV a b c rfl, fun hb => ?_, fun hb =>
    ⟨_, exec_div_zero s a b hb, answersAnyWord_respondFree s .div a b⟩⟩
  obtain ⟨lower, upper⟩ := abs_tdiv_bounds (S a * 65536) hb
  have hsign : 0 ≤ tdiv (S a * 65536) (S b) * (S a * S b) := by
    have := tdiv_mul_nonneg (S a * 65536) (S b)
    linarith
  exact ⟨_, _, tdiv (S a * 65536) (S b), exec_div_nonzero s a b hb, answersOnly_respond s _, lower, upper, hsign,
    S_narrow _⟩

/-- Settles O13; the endpoints are exact because the wraps of SUB and ADD cancel. -/
theorem lerpIsSubMulAddWithExactEndpoints : Obligations.LerpIsSubMulAddWithExactEndpoints := by
  refine ⟨fun a b c s => ⟨decode_plain .LERP a b c rfl, subVal b a, mulVal (subVal b a) c, lerpVal a b c, _,
    ?_, ?_, ?_, exec_lerp s a b c, answersOnly_respond s _⟩, fun a b => ⟨?_, ?_⟩⟩
  · exact yields_of_respond fun s => exec_sub s b a
  · exact yields_of_respond fun s => exec_mul s (subVal b a) c
  · exact yields_of_respond fun s => exec_add s a (mulVal (subVal b a) c)
  · have h := yields_of_respond fun s => exec_lerp s a b 0
    rwa [lerpVal_zero] at h
  · have h := yields_of_respond fun s => exec_lerp s a b ONE
    rwa [lerpVal_ONE] at h

/-- Settles O14, by the floor of XTOI and its round trip with ITOX. -/
theorem integerConversions : Obligations.IntegerConversions := by
  intro a b c s
  refine ⟨decode_plain .ITOX a b c rfl,
    ⟨_, _, exec_itox s a, answersOnly_respond s _, S_narrow _, fun lo hi => ?_⟩,
    decode_plain .XTOI a b c rfl, _, _, exec_xtoi s a, answersOnly_respond s _, ?_⟩
  · have h := yields_of_respond fun s => exec_xtoi s (itoxVal a)
    rwa [xtoiVal_itoxVal lo hi] at h
  · rw [S_xtoiVal]
    exact sra_16_bounds (S a)

end Sys2Proof.Machine

/-! SUPPORT. Binary32 numbers in units of 1/65536 (R108, R109): the value of a pattern as a sign and a magnitude, the
truncation that FTOX computes, and the rounding to the nearest even significand that XTOF computes. -/

namespace Sys2Proof.Machine

/-! ### Sign and magnitude -/

/-- The number with this sign bit and this magnitude. -/
def withSign (neg : Bool) (u : ℚ) : ℚ := if neg then -u else u

@[simp] theorem withSign_true (u : ℚ) : withSign true u = -u := rfl
@[simp] theorem withSign_false (u : ℚ) : withSign false u = u := rfl

theorem withSign_withSign (neg : Bool) (u : ℚ) : withSign neg (withSign neg u) = u := by
  cases neg <;> simp

theorem withSign_xor (neg neg' : Bool) (u : ℚ) : withSign (neg ^^ neg') u = withSign neg (withSign neg' u) := by
  cases neg <;> cases neg' <;> simp

/-- A common sign does not matter to a distance. -/
theorem abs_withSign_sub (neg : Bool) (u v : ℚ) : |withSign neg u - withSign neg v| = |u - v| := by
  cases neg with
  | false => rfl
  | true => rw [withSign_true, withSign_true, neg_sub_neg, abs_sub_comm]

/-- A word's signed reading by its sign and magnitude (R7). -/
theorem S_eq_withSign (a : Word) : (S a : ℚ) = withSign (decide (S a < 0)) ((S a).natAbs : ℚ) := by
  rw [Nat.cast_natAbs, Int.cast_abs]
  by_cases h : S a < 0
  · rw [decide_eq_true h, withSign_true, abs_of_neg (by exact_mod_cast h), neg_neg]
  · rw [decide_eq_false h, withSign_false, abs_of_nonneg (by exact_mod_cast not_lt.mp h)]

/-- The magnitude of a binary32 number in units of 1/65536 (R108). -/
def f32Units (a : Word) : ℚ :=
  if f32Exp a = 0 then (f32Frac a : ℚ) * 2 ^ (-133 : ℤ)
  else ((2 ^ 23 + f32Frac a : ℕ) : ℚ) * 2 ^ ((f32Exp a : ℤ) - 134)

theorem f32Units_of_subnormal {a : Word} (h : f32Exp a = 0) : f32Units a = (f32Frac a : ℚ) * 2 ^ (-133 : ℤ) :=
  if_pos h

theorem f32Units_of_normal {a : Word} (h : f32Exp a ≠ 0) :
    f32Units a = ((2 ^ 23 + f32Frac a : ℕ) : ℚ) * 2 ^ ((f32Exp a : ℤ) - 134) := if_neg h

theorem f32Units_nonneg (a : Word) : 0 ≤ f32Units a := by
  unfold f32Units
  split <;> positivity

/-- A pattern's value as its sign and its magnitude. -/
theorem f32Value_mul (a : Word) : f32Value a * 65536 = withSign (f32Sign a) (f32Units a) := by
  have scale (k : ℤ) : (2 : ℚ) ^ (k + 16) = 2 ^ k * 65536 := by
    rw [zpow_add₀ two_ne_zero]
    norm_num
  have hmag : (if f32Exp a = 0 then (f32Frac a : ℚ) * 2 ^ (-149 : ℤ)
      else (2 ^ 23 + f32Frac a : ℚ) * 2 ^ ((f32Exp a : ℤ) - 150)) * 65536 = f32Units a := by
    unfold f32Units
    split
    · rw [mul_assoc, ← scale]
      norm_num
    · rw [mul_assoc, ← scale]
      push_cast
      ring_nf
  rw [f32Value, mul_assoc, hmag]
  cases f32Sign a <;> simp

theorem f32Frac_lt (a : Word) : f32Frac a < 2 ^ 23 := (a.extractLsb' 0 23).isLt

/-- A significand has 24 bits (R108). -/
theorem significand_lt {m : Nat} (hm : m < 2 ^ 23) (k : ℤ) : ((2 ^ 23 + m : ℕ) : ℚ) * 2 ^ k < 2 ^ (24 + k) := by
  have hsig : ((2 ^ 23 + m : ℕ) : ℚ) < 2 ^ (24 : ℤ) := by
    norm_cast
    omega
  rw [zpow_add₀ two_ne_zero]
  gcongr

/-! ### FTOX: truncation -/

theorem truncQ_of_nonneg {u : ℚ} (h : 0 ≤ u) : truncQ u = ⌊u⌋ := if_pos h

theorem truncQ_neg {u : ℚ} (h : 0 ≤ u) : truncQ (-u) = -⌊u⌋ := by
  unfold truncQ
  split
  · have hu : u = 0 := by linarith
    simp [hu]
  · exact Int.ceil_neg

/-- An integer is its own truncation (R10). -/
theorem truncQ_intCast (n : ℤ) : truncQ n = n := by
  rw [truncQ, Int.floor_intCast, Int.ceil_intCast, ite_self]

/-- The shifts of R108 floor the magnitude of a normal number. -/
theorem ftoxMag_eq_floor (e : Nat) {m : Nat} (hm : m < 2 ^ 23) :
    ftoxMag e m = ⌊((2 ^ 23 + m : ℕ) : ℚ) * 2 ^ ((e : ℤ) - 134)⌋₊ := by
  simp only [ftoxMag]
  split_ifs with left right
  · obtain ⟨k, hk⟩ := Int.eq_ofNat_of_zero_le left
    rw [hk, Int.toNat_natCast, zpow_natCast, eq_comm]
    exact_mod_cast Nat.floor_natCast (R := ℚ) _
  · obtain ⟨k, hk⟩ := Int.eq_ofNat_of_zero_le (a := -((e : ℤ) - 134)) (by omega)
    rw [← neg_neg ((e : ℤ) - 134), hk, neg_neg, Int.toNat_natCast, zpow_neg, zpow_natCast, ← div_eq_mul_inv,
      eq_comm]
    exact_mod_cast Nat.floor_div_eq_div (K := ℚ) _ (2 ^ k)
  · rw [eq_comm, Nat.floor_eq_zero]
    exact (significand_lt hm _).trans_le (zpow_le_one_of_nonpos₀ one_le_two (by omega))

/-- A subnormal number is below one unit (R108). -/
theorem f32Units_lt_one {a : Word} (h : f32Exp a = 0) : f32Units a < 1 := by
  have hfrac : (f32Frac a : ℚ) < 2 ^ 23 := by exact_mod_cast f32Frac_lt a
  rw [f32Units_of_subnormal h]
  calc (f32Frac a : ℚ) * 2 ^ (-133 : ℤ)
    _ < 2 ^ 23 * 2 ^ (-133 : ℤ) := by gcongr
    _ ≤ 1 := by norm_num

/-- FTOX's magnitude is the floor of the number's magnitude (R108). -/
theorem floor_f32Units (a : Word) :
    ⌊f32Units a⌋ = if f32Exp a = 0 then 0 else (ftoxMag (f32Exp a) (f32Frac a) : ℤ) := by
  split
  next h => exact Int.floor_eq_zero_iff.mpr ⟨f32Units_nonneg a, f32Units_lt_one h⟩
  next h =>
    rw [ftoxMag_eq_floor _ (f32Frac_lt a), ← f32Units_of_normal h, Int.natCast_floor_eq_floor (f32Units_nonneg a)]

/-- The truncated value of a pattern by its sign and magnitude (R108). -/
theorem truncQ_f32Value (a : Word) :
    truncQ (f32Value a * 65536) = if f32Sign a then -⌊f32Units a⌋ else ⌊f32Units a⌋ := by
  rw [f32Value_mul]
  cases f32Sign a with
  | false => exact truncQ_of_nonneg (f32Units_nonneg a)
  | true => exact truncQ_neg (f32Units_nonneg a)

/-- FTOX of an infinity or a NaN (R108, U3). -/
theorem ftoxVal_of_notFinite {a : Word} (h : f32Exp a = 255) : ftoxVal a = none := if_pos h

/-- FTOX of a finite number: the truncated value where it fits 32 bits (R108). -/
theorem ftoxVal_of_finite {a : Word} (h : f32Exp a ≠ 255) :
    ftoxVal a =
      if -2147483648 ≤ truncQ (f32Value a * 65536) ∧ truncQ (f32Value a * 65536) ≤ 2147483647 then
        some (narrow (truncQ (f32Value a * 65536)))
      else none := by
  rw [truncQ_f32Value, floor_f32Units, ftoxVal, if_neg h]
  by_cases h₀ : f32Exp a = 0
  · simp [h₀, narrow]
  · simp only [h₀, if_false]
    generalize ftoxMag (f32Exp a) (f32Frac a) = mag
    cases f32Sign a <;> simp

/-- Settles O15, from FTOX as the truncated value where that fits. -/
theorem ftoxTruncatesTheFloat : Obligations.FtoxTruncatesTheFloat := by
  refine fun a b c s => ⟨decode_plain .FTOX a b c rfl, fun finite lo hi => ?_, fun unfit => ?_⟩
  · have hval := ftoxVal_of_finite finite
    rw [if_pos ⟨lo, hi⟩] at hval
    exact ⟨_, _, exec_ftox_some s a hval, answersOnly_respond s _, S_narrow_of_fits lo hi⟩
  · have hval : ftoxVal a = none := by
      by_cases h : f32Exp a = 255
      · exact ftoxVal_of_notFinite h
      · rw [ftoxVal_of_finite h, if_neg]
        omega
    exact ⟨_, exec_ftox_none s a hval, answersAnyWord_respondFree s .ftox a 0⟩

/-! ### The fields of a packed binary32 pattern -/

section Pack
variable (neg : Bool) (e m : Nat)

theorem toNat_f32Pack :
    (f32Pack neg e m).toNat = (if neg then 2 ^ 31 else 0) + e % 2 ^ 8 * 2 ^ 23 + m % 2 ^ 23 := by
  simp only [f32Pack, BitVec.toNat_ofNat]
  split <;> omega

@[simp] theorem f32Sign_f32Pack : f32Sign (f32Pack neg e m) = neg := by
  rw [f32Sign, BitVec.getLsbD, Nat.testBit_eq_decide_div_mod_eq, toNat_f32Pack]
  cases neg <;> simp <;> omega

@[simp] theorem f32Exp_f32Pack : f32Exp (f32Pack neg e m) = e % 2 ^ 8 := by
  rw [f32Exp, BitVec.extractLsb'_toNat, toNat_f32Pack, Nat.shiftRight_eq_div_pow]
  split <;> omega

@[simp] theorem f32Frac_f32Pack : f32Frac (f32Pack neg e m) = m % 2 ^ 23 := by
  rw [f32Frac, BitVec.extractLsb'_toNat, toNat_f32Pack, Nat.shiftRight_zero]
  split <;> omega

/-- An even significand leaves bit 0 of the pattern clear. -/
theorem getLsbD_zero_f32Pack (even : m % 2 = 0) : (f32Pack neg e m).getLsbD 0 = false := by
  rw [BitVec.getLsbD, toNat_f32Pack, Nat.testBit_zero, decide_eq_false_iff_not]
  split <;> omega

end Pack

/-- A packed normal number with its 24-bit significand `sig` (R109). -/
theorem f32Units_f32Pack (neg : Bool) {q sig : Nat} (hq : q + 111 < 255) (lo : 2 ^ 23 ≤ sig) (hi : sig < 2 ^ 24) :
    f32Units (f32Pack neg (q + 111) sig) = (sig : ℚ) * 2 ^ ((q : ℤ) - 23) := by
  have hexp : f32Exp (f32Pack neg (q + 111) sig) = q + 111 := by
    rw [f32Exp_f32Pack]
    omega
  have hsig : 2 ^ 23 + sig % 2 ^ 23 = sig := by omega
  rw [f32Units_of_normal (by omega), hexp, f32Frac_f32Pack, hsig]
  push_cast
  ring_nf

/-! ### Nearest on a grid -/

section Grid
variable {u x y M B : ℚ} {i j k : ℤ}

/-- Two different multiples of `u` are `u` apart at least. -/
theorem gap_le_abs_sub (hx : x = k * u) (hy : y = j * u) (hne : x ≠ y) : |u| ≤ |x - y| := by
  have hkj : k - j ≠ 0 := by
    rintro h
    exact hne (by rw [hx, hy, sub_eq_zero.mp h])
  have h₁ : (1 : ℚ) ≤ |((k - j : ℤ) : ℚ)| := by exact_mod_cast Int.one_le_abs hkj
  calc |u|
    _ ≤ |((k - j : ℤ) : ℚ)| * |u| := le_mul_of_one_le_left (abs_nonneg _) h₁
    _ = |x - y| := by rw [← abs_mul, hx, hy]; push_cast; ring_nf

/-- A multiple `y` of `u` at most half a `u` from `M`: every other multiple is at least the rest of a `u` away. -/
theorem gap_sub_le_abs_sub (hx : x = k * u) (hy : y = j * u) (hne : x ≠ y) :
    u - |y - M| ≤ |x - M| := by
  have hgap := gap_le_abs_sub hx hy hne
  have htri : |x - y| ≤ |x - M| + |y - M| := by
    rw [abs_sub_comm y M]
    exact abs_sub_le x M y
  linarith [le_abs_self u]

/-- Such a `y` is nearest among the multiples. -/
theorem nearest_of_half_gap (hy : y = j * u) (half : 2 * |y - M| ≤ u) (hx : x = k * u) :
    |y - M| ≤ |x - M| := by
  by_cases hxy : x = y
  · rw [hxy]
  · linarith [gap_sub_le_abs_sub (M := M) hx hy hxy]

/-- Such a `y` is nearest also among numbers below a multiple `B ≤ M`, and as near as another only when halfway. -/
theorem nearest_or_halfway (hy : y = j * u) (half : 2 * |y - M| ≤ u) (hB : B = i * u) (hBM : B ≤ M)
    (hx : x < B ∨ ∃ k : ℤ, x = k * u) :
    |y - M| ≤ |x - M| ∧ (x ≠ y → |x - M| = |y - M| → 2 * |y - M| = u) := by
  rcases hx with below | ⟨k, hk⟩
  · have hnear := nearest_of_half_gap hy half hB
    have hfar : |B - M| < |x - M| := by
      rw [abs_of_nonpos (by linarith), abs_of_nonpos (by linarith)]
      linarith
    exact ⟨by linarith, fun _ _ => by linarith⟩
  · exact ⟨nearest_of_half_gap hy half hk, fun hne heq => by linarith [gap_sub_le_abs_sub (M := M) hk hy hne]⟩

end Grid

/-- The unit in the last place, in units of 1/65536, of a 24-bit significand whose highest bit is bit `p` (R109). -/
def ulpAt (p : Nat) : ℚ := 2 ^ ((p : ℤ) - 23)

theorem ulpAt_pos (p : Nat) : 0 < ulpAt p := zpow_pos two_pos _

theorem two_pow_eq_mul_ulpAt (p : Nat) : (2 : ℚ) ^ p = (2 ^ 23 : ℤ) * ulpAt p := by
  rw [ulpAt, zpow_sub₀ two_ne_zero, zpow_natCast]
  norm_num
  ring

theorem ulpAt_of_gt {p : Nat} (h : 23 < p) : ulpAt p = 2 ^ (p - 23) := by
  rw [ulpAt, ← zpow_natCast, Nat.cast_sub h.le]
  rfl

/-- From `2^p` units on, the binary32 numbers are multiples of the unit in the last place (R109). -/
theorem f32Units_lt_or_grid (w : Word) (p : Nat) :
    f32Units w < 2 ^ p ∨ ∃ k : ℤ, f32Units w = k * ulpAt p := by
  by_cases subnormal : f32Exp w = 0
  · exact .inl ((f32Units_lt_one subnormal).trans_le (one_le_pow₀ one_le_two))
  rw [f32Units_of_normal subnormal]
  by_cases small : (f32Exp w : ℤ) - 134 < p - 23
  · left
    calc ((2 ^ 23 + f32Frac w : ℕ) : ℚ) * 2 ^ ((f32Exp w : ℤ) - 134)
      _ < 2 ^ (24 + ((f32Exp w : ℤ) - 134)) := significand_lt (f32Frac_lt w) _
      _ ≤ 2 ^ (p : ℤ) := zpow_le_zpow_right₀ one_le_two (by omega)
      _ = 2 ^ p := zpow_natCast _ _
  · right
    obtain ⟨k, hk⟩ := Int.eq_ofNat_of_zero_le (a := (f32Exp w : ℤ) - 134 - (p - 23)) (by omega)
    refine ⟨(2 ^ 23 + f32Frac w : ℕ) * 2 ^ k, ?_⟩
    rw [ulpAt, eq_add_of_sub_eq hk, zpow_add₀ two_ne_zero, zpow_natCast, ← mul_assoc]
    push_cast
    rfl

/-- The same for a signed number. -/
theorem withSign_f32Units_lt_or_grid (neg : Bool) (w : Word) (p : Nat) :
    withSign neg (f32Units w) < 2 ^ p ∨ ∃ k : ℤ, withSign neg (f32Units w) = k * ulpAt p := by
  cases neg with
  | false => exact f32Units_lt_or_grid w p
  | true =>
    left
    have hpos : (0 : ℚ) < 2 ^ p := by positivity
    rw [withSign_true]
    linarith [f32Units_nonneg w]

/-! ### The rounding of XTOF -/

/-- R109 finds the highest set bit. -/
theorem highestBitUpTo_bounds {mag k : Nat} (pos : 0 < mag) (hk : mag < 2 ^ (k + 1)) :
    highestBitUpTo mag k ≤ k ∧ 2 ^ highestBitUpTo mag k ≤ mag ∧ mag < 2 ^ (highestBitUpTo mag k + 1) := by
  induction k with
  | zero => exact ⟨le_rfl, pos, hk⟩
  | succ k ih =>
    rw [highestBitUpTo]
    split
    next top => exact ⟨le_rfl, top, hk⟩
    next below =>
      obtain ⟨hle, hlo, hhi⟩ := ih (not_le.mp below)
      exact ⟨hle.trans k.le_succ, hlo, hhi⟩

/-- `mag / 2^sh` rounded to the nearest integer, ties to even: the significand of R109 before it is brought back to 24
bits (`xtofRound_of_gt`). -/
def roundEven (mag sh : Nat) : Nat :=
  if 2 ^ (sh - 1) < mag % 2 ^ sh ∨ (mag % 2 ^ sh = 2 ^ (sh - 1) ∧ mag / 2 ^ sh % 2 = 1) then mag / 2 ^ sh + 1
  else mag / 2 ^ sh

theorem xtofRound_of_le {mag p : Nat} (h : p ≤ 23) : xtofRound mag p = (mag * 2 ^ (23 - p), p) := if_pos h

theorem xtofRound_of_gt {mag p : Nat} (h : 23 < p) :
    xtofRound mag p =
      if roundEven mag (p - 23) = 2 ^ 24 then (2 ^ 23, p + 1) else (roundEven mag (p - 23), p) :=
  if_neg (not_le.mpr h)

/-- Rounding to even is off by half a unit at most, and by exactly half only when the result is even. -/
theorem roundEven_error (mag : Nat) {sh : Nat} (h : 1 ≤ sh) :
    2 * |(roundEven mag sh * 2 ^ sh : ℚ) - mag| ≤ 2 ^ sh ∧
      (2 * |(roundEven mag sh * 2 ^ sh : ℚ) - mag| = 2 ^ sh → roundEven mag sh % 2 = 0) := by
  have hdiv := Nat.div_add_mod' mag (2 ^ sh)
  have hrem := Nat.mod_lt mag (Nat.two_pow_pos sh)
  have htwo : 2 ^ sh = 2 * 2 ^ (sh - 1) := by rw [← pow_succ', Nat.sub_add_cancel h]
  suffices hint : 2 * |((roundEven mag sh * 2 ^ sh : ℕ) : ℤ) - mag| ≤ (2 ^ sh : ℕ) ∧
      (2 * |((roundEven mag sh * 2 ^ sh : ℕ) : ℤ) - mag| = (2 ^ sh : ℕ) → roundEven mag sh % 2 = 0) by
    exact_mod_cast hint
  unfold roundEven
  generalize mag % 2 ^ sh = rem at *
  split_ifs with up
  · rw [Nat.add_mul, one_mul, Int.abs_eq_natAbs]
    omega
  · rw [Int.abs_eq_natAbs]
    omega

/-- A rounded significand has 24 bits, or is the next power of two. -/
theorem roundEven_bounds {mag p : Nat} (hp : 23 < p) (lo : 2 ^ p ≤ mag) (hi : mag < 2 ^ (p + 1)) :
    2 ^ 23 ≤ roundEven mag (p - 23) ∧ roundEven mag (p - 23) ≤ 2 ^ 24 := by
  have hpow : 2 ^ p = 2 ^ 23 * 2 ^ (p - 23) := by rw [← pow_add, Nat.add_sub_cancel' hp.le]
  have hquot : 2 ^ 23 ≤ mag / 2 ^ (p - 23) := by
    rwa [Nat.le_div_iff_mul_le (Nat.two_pow_pos _), ← hpow]
  have hquot' : mag / 2 ^ (p - 23) < 2 ^ 24 := by
    rw [Nat.div_lt_iff_lt_mul (Nat.two_pow_pos _)]
    calc mag
      _ < 2 ^ (p + 1) := hi
      _ = 2 ^ 24 * 2 ^ (p - 23) := by rw [pow_succ, hpow]; ring
  unfold roundEven
  split <;> omega

/-- The number, in units of 1/65536, that a significand and its position stand for (R109). -/
def roundedUnits (r : Nat × Nat) : ℚ := (r.1 : ℚ) * 2 ^ ((r.2 : ℤ) - 23)

/-- A magnitude of at most 24 bits is kept (R109). -/
theorem roundedUnits_of_le {mag p : Nat} (h : p ≤ 23) : roundedUnits (xtofRound mag p) = mag := by
  have hpos : ((23 - p : ℕ) : ℤ) + ((p : ℤ) - 23) = 0 := by omega
  rw [roundedUnits, xtofRound_of_le h]
  push_cast
  rw [mul_assoc, ← zpow_natCast, ← zpow_add₀ two_ne_zero, hpos, zpow_zero, mul_one]

theorem roundedUnits_of_gt {mag p : Nat} (h : 23 < p) :
    roundedUnits (xtofRound mag p) = roundEven mag (p - 23) * ulpAt p := by
  rw [roundedUnits, ulpAt, xtofRound_of_gt h]
  split
  next carry =>
    rw [carry, Nat.cast_add, Nat.cast_one, add_sub_right_comm, zpow_add_one₀ two_ne_zero]
    push_cast
    ring
  next => rfl

/-- XTOF's significand has 24 bits, and rounding raises its position by one at most (R109). -/
theorem xtofRound_bounds {mag p : Nat} (lo : 2 ^ p ≤ mag) (hi : mag < 2 ^ (p + 1)) :
    2 ^ 23 ≤ (xtofRound mag p).1 ∧ (xtofRound mag p).1 < 2 ^ 24 ∧ (xtofRound mag p).2 ≤ p + 1 := by
  by_cases hp : p ≤ 23
  · rw [xtofRound_of_le hp]
    have hpow (n : Nat) : 2 ^ (n + p) * 2 ^ (23 - p) = 2 ^ (n + 23) := by
      rw [← pow_add, add_assoc, Nat.add_sub_cancel' hp]
    refine ⟨?_, ?_, p.le_succ⟩
    · calc 2 ^ 23
        _ = 2 ^ p * 2 ^ (23 - p) := by simpa using (hpow 0).symm
        _ ≤ mag * 2 ^ (23 - p) := Nat.mul_le_mul_right _ lo
    · calc mag * 2 ^ (23 - p)
        _ < 2 ^ (p + 1) * 2 ^ (23 - p) := Nat.mul_lt_mul_of_pos_right hi (Nat.two_pow_pos _)
        _ = 2 ^ 24 := by rw [add_comm p, hpow 1]
  · have hp' := not_le.mp hp
    have hround := roundEven_bounds hp' lo hi
    rw [xtofRound_of_gt hp']
    split
    next => exact ⟨le_rfl, Nat.pow_lt_pow_right one_lt_two (by decide), le_rfl⟩
    next top => exact ⟨hround.1, lt_of_le_of_ne hround.2 top, p.le_succ⟩

/-- XTOF's rounding is off by half a unit in the last place at most, and by exactly half only with an even significand
(R109). -/
theorem roundedUnits_error {mag p : Nat} :
    (∃ j : ℤ, roundedUnits (xtofRound mag p) = j * ulpAt p) ∧
      2 * |roundedUnits (xtofRound mag p) - mag| ≤ ulpAt p ∧
      (2 * |roundedUnits (xtofRound mag p) - mag| = ulpAt p → (xtofRound mag p).1 % 2 = 0) := by
  by_cases hp : p ≤ 23
  · refine ⟨⟨(mag * 2 ^ (23 - p) : ℕ), ?_⟩, ?_⟩
    · rw [roundedUnits, xtofRound_of_le hp]
      rfl
    · rw [roundedUnits_of_le hp, sub_self, abs_zero, mul_zero]
      exact ⟨(ulpAt_pos p).le, fun h => absurd h (ulpAt_pos p).ne⟩
  · have hp' := not_le.mp hp
    obtain ⟨herr, heven⟩ := roundEven_error mag (sh := p - 23) (by omega)
    rw [roundedUnits_of_gt hp', ulpAt_of_gt hp']
    refine ⟨⟨roundEven mag (p - 23), rfl⟩, herr, fun half => ?_⟩
    rw [xtofRound_of_gt hp']
    split
    next => norm_num
    next => exact heven half

/-! ### XTOF -/

/-- The position of the highest set bit of a word's magnitude (R109). -/
def topBit (a : Word) : Nat := highestBitUpTo (S a).natAbs 31

theorem topBit_bounds {a : Word} (h : S a ≠ 0) :
    topBit a ≤ 31 ∧ 2 ^ topBit a ≤ (S a).natAbs ∧ (S a).natAbs < 2 ^ (topBit a + 1) :=
  highestBitUpTo_bounds (Int.natAbs_pos.mpr h) (by have := S_range a; omega)

theorem xtofVal_zero {a : Word} (h : S a = 0) : xtofVal a = 0 := if_pos h

theorem xtofVal_of_ne {a : Word} (h : S a ≠ 0) :
    xtofVal a = f32Pack (decide (S a < 0)) ((xtofRound (S a).natAbs (topBit a)).2 + 111)
      (xtofRound (S a).natAbs (topBit a)).1 := if_neg h

/-- XTOF never answers an infinity or a NaN (R109). -/
theorem f32Exp_xtofVal (a : Word) : f32Exp (xtofVal a) ≠ 255 := by
  by_cases h : S a = 0
  · rw [xtofVal_zero h]
    decide
  · obtain ⟨htop, lo, hi⟩ := topBit_bounds h
    obtain ⟨-, -, hpos⟩ := xtofRound_bounds lo hi
    rw [xtofVal_of_ne h, f32Exp_f32Pack]
    omega

/-- The number XTOF answers: the word's sign and its rounded magnitude (R109). -/
theorem f32Value_xtofVal {a : Word} (h : S a ≠ 0) :
    f32Value (xtofVal a) * 65536 =
      withSign (decide (S a < 0)) (roundedUnits (xtofRound (S a).natAbs (topBit a))) := by
  obtain ⟨htop, lo, hi⟩ := topBit_bounds h
  obtain ⟨hlo, hhi, hpos⟩ := xtofRound_bounds lo hi
  rw [f32Value_mul, xtofVal_of_ne h, f32Sign_f32Pack, f32Units_f32Pack _ (by omega) hlo hhi, roundedUnits]

/-- XTOF keeps the value of a word of at most 24 bits (R109). -/
theorem f32Value_xtofVal_of_small {a : Word} (h : |S a| < 16777216) : f32Value (xtofVal a) * 65536 = S a := by
  by_cases h₀ : S a = 0
  · rw [xtofVal_zero h₀, h₀, f32Value_mul, f32Units_of_subnormal (by decide), show f32Frac 0 = 0 by decide,
      show f32Sign 0 = false by decide]
    simp
  · obtain ⟨-, lo, -⟩ := topBit_bounds h₀
    have htop : topBit a < 24 := by
      have hmag : (S a).natAbs < 2 ^ 24 := by
        rw [Int.abs_eq_natAbs] at h
        omega
      exact (Nat.pow_lt_pow_iff_right one_lt_two).mp (lo.trans_lt hmag)
    rw [f32Value_xtofVal h₀, roundedUnits_of_le (Nat.le_of_lt_succ htop), ← S_eq_withSign]

/-- Distances to a word's value, in units of 1/65536. -/
theorem abs_sub_fxValue (x : ℚ) (a : Word) : |x - fxValue a| = |x * 65536 - S a| / 65536 := by
  have hunit : (0 : ℚ) < 65536 := by norm_num
  rw [eq_div_iff hunit.ne']
  nth_rw 1 [← abs_of_pos hunit]
  rw [← abs_mul, fxValue, sub_mul, div_mul_cancel₀ _ hunit.ne']

/-- `y` is as near to the value of `a` as `w` is, and has the even significand where the two are different numbers and
equally near (R109). -/
def asNearAs (a y w : Word) : Prop :=
  |f32Value y - fxValue a| ≤ |f32Value w - fxValue a| ∧
    (f32Value w ≠ f32Value y → |f32Value w - fxValue a| = |f32Value y - fxValue a| → y.getLsbD 0 = false)

/-- The same in units of 1/65536. -/
theorem asNearAs_iff {a y w : Word} :
    asNearAs a y w ↔ |f32Value y * 65536 - S a| ≤ |f32Value w * 65536 - S a| ∧
      (f32Value w * 65536 ≠ f32Value y * 65536 →
        |f32Value w * 65536 - S a| = |f32Value y * 65536 - S a| → y.getLsbD 0 = false) := by
  have hunit : (0 : ℚ) < 65536 := by norm_num
  rw [asNearAs, abs_sub_fxValue, abs_sub_fxValue, div_le_div_iff_of_pos_right hunit, div_left_inj' hunit.ne',
    ne_eq, ne_eq, mul_left_inj' hunit.ne']

/-- A number equal to the value is nearer than every other (R109). -/
theorem asNearAs_of_eq {a y : Word} (same : f32Value y * 65536 = S a) (w : Word) : asNearAs a y w := by
  rw [asNearAs_iff, same, sub_self, abs_zero]
  exact ⟨abs_nonneg _, fun hne heq => absurd (sub_eq_zero.mp (abs_eq_zero.mp heq)) hne⟩

/-- XTOF of a word that is not 0: the rounded magnitude is nearest on the grid of binary32 numbers (R109). -/
theorem xtofVal_asNearAs {a : Word} (h : S a ≠ 0) (w : Word) : asNearAs a (xtofVal a) w := by
  obtain ⟨-, lo, -⟩ := topBit_bounds h
  obtain ⟨⟨j, hj⟩, half, even⟩ := roundedUnits_error (mag := (S a).natAbs) (p := topBit a)
  have hbelow : (2 : ℚ) ^ topBit a ≤ (S a).natAbs := by exact_mod_cast lo
  have hw : f32Value w * 65536 =
      withSign (decide (S a < 0)) (withSign (decide (S a < 0) ^^ f32Sign w) (f32Units w)) := by
    rw [f32Value_mul, withSign_xor, withSign_withSign]
  obtain ⟨near, halfway⟩ :=
    nearest_or_halfway hj half (two_pow_eq_mul_ulpAt _) hbelow
      (withSign_f32Units_lt_or_grid (decide (S a < 0) ^^ f32Sign w) w (topBit a))
  have hvalue := f32Value_xtofVal h
  rw [asNearAs_iff, hvalue, hw, S_eq_withSign a, abs_withSign_sub, abs_withSign_sub]
  refine ⟨near, fun hne heq => ?_⟩
  rw [xtofVal_of_ne h]
  exact getLsbD_zero_f32Pack _ _ _ (even (halfway (fun same => hne (congrArg _ same)) heq))

/-- Settles O16: the response is at least as near as any other binary32, and even at a tie. -/
theorem xtofRoundsToNearestEven : Obligations.XtofRoundsToNearestEven := by
  intro a b c s
  have near (w : Word) : asNearAs a (xtofVal a) w := by
    by_cases h : S a = 0
    · exact asNearAs_of_eq (f32Value_xtofVal_of_small (by rw [h]; decide)) w
    · exact xtofVal_asNearAs h w
  exact ⟨decode_plain .XTOF a b c rfl, _, _, exec_xtof s a, answersOnly_respond s _, f32Exp_xtofVal a,
    fun w _ => (near w).1, fun w _ => (near w).2, xtofVal_zero⟩

/-- Settles O17: XTOF keeps a value of at most 24 bits, which FTOX truncates to itself. -/
theorem xtofThenFtoxReturnsTheWord : Obligations.XtofThenFtoxReturnsTheWord := by
  intro a small
  have hrange := S_range a
  have hback : ftoxVal (xtofVal a) = some a := by
    rw [ftoxVal_of_finite (f32Exp_xtofVal a), f32Value_xtofVal_of_small small, truncQ_intCast, if_pos hrange, narrow_S]
  exact ⟨xtofVal a, yields_of_respond fun s => exec_xtof s a, yields_of_respond fun s => exec_ftox_some s _ hback⟩

end Sys2Proof.Machine

/-! SUPPORT. INIT and STAT of LookupTableBank (R130, R131): the frame of an answer that sets `INIT_DONE`, and each bit
of the `STATUS` word (R26). -/

namespace Sys2Proof.Machine

/-! ### What a command that sets `INIT_DONE` leaves behind -/

/-- Answering with `y` and setting `INIT_DONE` changes nothing else (R130, R140, R170). -/
theorem answersInit_respondInit (s : State) (y : Word) : answersInit s (s.respondInit y) y :=
  ⟨rfl, rfl, rfl, rfl, rfl⟩

/-- Only the last of two such answers is left (R130). -/
@[simp] theorem State.respondInit_respondInit (s : State) (x y : Word) :
    (s.respondInit x).respondInit y = s.respondInit y := rfl

/-- INIT is the answer 0 that sets `INIT_DONE` (R130). -/
theorem exec_init_eq_respondInit (s : State) : exec .init s = .next (s.respondInit 0) := exec_init s

/-- Settles O18; the second INIT answers again what the first one did. -/
theorem initSetsInitDone : Obligations.InitSetsInitDone := by
  refine fun a b c s => ⟨decode_plain .INIT a b c rfl, s.respondInit 0, exec_init_eq_respondInit s,
    answersInit_respondInit s 0, ?_⟩
  rw [exec_init_eq_respondInit, State.respondInit_respondInit]

/-! ### The bits of the `STATUS` word -/

/-- A flag shown at bit `k` of a word is seen at that bit and at no other. -/
theorem getLsbD_flagAt (flag : Bool) {k n : Nat} (hn : n < 32) :
    (if flag then (1 : Word) <<< k else 0).getLsbD n = (flag && decide (n = k)) := by
  cases flag with
  | false => exact BitVec.getLsbD_zero
  | true =>
    have hone : (1 : Word) <<< k = BitVec.twoPow 32 k := rfl
    rw [if_pos rfl, hone, BitVec.getLsbD_twoPow]
    by_cases hkn : k = n
    · simp [← hkn, hkn ▸ hn]
    · simp [hkn, Ne.symm hkn]

section ActiveBits
variable (vs : List Voice) {k n : Nat}

/-- No voice shows below the bit of the first one (R26). -/
theorem getLsbD_activeBits_of_lt (hn : n < 32) (hnk : n < k) : (activeBits vs k).getLsbD n = false := by
  induction vs generalizing k with
  | nil => exact BitVec.getLsbD_zero
  | cons x vs ih =>
    rw [activeBits, BitVec.getLsbD_or, getLsbD_flagAt _ hn, ih (Nat.lt_succ_of_lt hnk),
      decide_eq_false hnk.ne, Bool.and_false, Bool.or_false]

/-- Voice `v` shows `v` bits above the first one, and a missing voice shows 0 (R26). -/
theorem getLsbD_activeBits_add {v : Nat} (hv : k + v < 32) :
    (activeBits vs k).getLsbD (k + v) = (vs[v]?.map Voice.active).getD false := by
  induction vs generalizing k v with
  | nil => exact BitVec.getLsbD_zero
  | cons x vs ih =>
    rw [activeBits, BitVec.getLsbD_or, getLsbD_flagAt _ hv]
    cases v with
    | zero =>
      rw [getLsbD_activeBits_of_lt vs hv (Nat.lt_succ_self k), decide_eq_true (Nat.add_zero k), Bool.and_true,
        Bool.or_false, List.getElem?_cons_zero, Option.map_some, Option.getD_some]
    | succ v =>
      have htail := ih (k := k + 1) (v := v) (by omega)
      rw [show k + (v + 1) = k + 1 + v by omega, htail, decide_eq_false (by omega), Bool.and_false,
        Bool.false_or, List.getElem?_cons_succ]

end ActiveBits

section StatusBits
variable (s : State) {n : Nat}

/-- `STATUS` at any bit: `INIT_DONE` at bit 0, and the `ACTIVE` bits (R26). -/
theorem getLsbD_statusWord (hn : n < 32) :
    (statusWord s).getLsbD n = ((s.initDone && decide (n = 0)) || (activeBits s.voices 16).getLsbD n) := by
  have hinit := getLsbD_flagAt s.initDone (k := 0) hn
  rw [BitVec.shiftLeft_zero] at hinit
  rw [statusWord, BitVec.getLsbD_or, hinit]

/-- Bit 0 of `STATUS` is `INIT_DONE` (R26). -/
theorem getLsbD_statusWord_zero : (statusWord s).getLsbD 0 = s.initDone := by
  rw [getLsbD_statusWord s (by decide), getLsbD_activeBits_of_lt _ (by decide) (by decide), decide_eq_true rfl,
    Bool.and_true, Bool.or_false]

/-- Bits 1 to 15 of `STATUS` are 0 (R26). -/
theorem getLsbD_statusWord_unused (lo : 1 ≤ n) (hi : n ≤ 15) : (statusWord s).getLsbD n = false := by
  rw [getLsbD_statusWord s (by omega), getLsbD_activeBits_of_lt _ (by omega) (by omega), decide_eq_false (by omega),
    Bool.and_false, Bool.or_false]

/-- Bit `16 + v` of `STATUS` is `ACTIVE[v]`, and 0 for a missing voice (R26). -/
theorem getLsbD_statusWord_active {v : Nat} (hv : v ≤ 15) :
    (statusWord s).getLsbD (16 + v) = (s.voices[v]?.map Voice.active).getD false := by
  rw [getLsbD_statusWord s (by omega), getLsbD_activeBits_add _ (by omega), decide_eq_false (by omega),
    Bool.and_false, Bool.false_or]

end StatusBits

/-- Settles O19, by the bits of the `STATUS` word; a voice file of more than 16 voices would show its first 16 alike. -/
theorem statReportsTheStatusWord : Obligations.StatReportsTheStatusWord := fun a b c s _ =>
  ⟨decode_plain .STAT a b c rfl, _, _, exec_stat s, answersOnly_respond s _, getLsbD_statusWord_zero s,
    fun _ lo hi => getLsbD_statusWord_unused s lo hi, fun _ hv => getLsbD_statusWord_active s hv⟩

end Sys2Proof.Machine

/-! SUPPORT. FastMathFacade (R140 to R153): the response of each operation as a function of the signed readings of its
operands, and the bounds of the quantizer (R143) and of the note frequencies (R147). -/

namespace Sys2Proof.Machine

/-- A command that in every state sets `INIT_DONE` and answers `y` yields `y` (R181). -/
theorem yields_of_respondInit {i : Instr} {y : Word} (h : ∀ s, exec i s = .next (s.respondInit y)) : yields i y :=
  fun s => ⟨s.respondInit y, h s, State.respondInit_response s y⟩

/-! ### The 0.01 quantizer (R143) -/

/-- The quantizer's index is the floor that rounds to the nearest grid point, ties upward. -/
theorem quantIdx_bounds (d : Int) :
    65536 * quantIdx d ≤ d * 100 + 32768 ∧ d * 100 + 32768 < 65536 * (quantIdx d + 1) := by
  obtain ⟨lower, upper⟩ := sra_16_bounds (d * 100 + 32768)
  rw [quantIdx]
  omega

/-- Adding 1.0 adds 100 steps. -/
theorem quantIdx_add_one (d : Int) : quantIdx (d + 65536) = quantIdx d + 100 := by
  rw [quantIdx, quantIdx, sra_16, sra_16]
  omega

section Frac
variable {a : Word}

/-- FRAC on `[0, 1]` (R141). -/
theorem S_fracVal_inside (lo : 0 ≤ S a) (hi : S a ≤ 65536) :
    S (fracVal a) = if quantIdx (S a) = 100 then 0 else 65536 * quantIdx (S a) / 100 := by
  have hq := quantIdx_bounds (S a)
  rw [fracVal, if_pos ⟨lo, hi⟩, romRead_fmod (by omega) (by omega)]
  split
  next => exact S_narrow_of_fits (by decide) (by decide)
  next => exact S_narrow_of_fits (by omega) (by omega)

/-- FRAC above 1.0 (R141). -/
theorem S_fracVal_above (h : 65536 < S a) : S (fracVal a) = S a % 65536 := by
  rw [fracVal, if_neg (by omega), if_pos h]
  exact S_narrow_of_fits (by omega) (by omega)

/-- FRAC below 0 (R141). -/
theorem S_fracVal_below (h : S a < 0) : S (fracVal a) = -((-S a) % 65536) := by
  rw [fracVal, if_neg (by omega), if_neg (by omega)]
  exact S_narrow_of_fits (by omega) (by omega)

/-- FRAC of an operand nearest to a grid point below 1.0 (R143). -/
theorem S_fracVal_before_last (lo : 0 ≤ S a) (hi : S a ≤ 65208) : S (fracVal a) = 65536 * quantIdx (S a) / 100 := by
  have hq := quantIdx_bounds (S a)
  rw [S_fracVal_inside lo (by omega), if_neg (by omega)]

/-- FRAC of an operand nearest to 1.0 (R143 c). -/
theorem fracVal_last (lo : 65209 ≤ S a) (hi : S a ≤ 65536) : fracVal a = 0 := by
  have hq := quantIdx_bounds (S a)
  have hzero : S (fracVal a) = 0 := by rw [S_fracVal_inside (by omega) hi, if_pos (by omega)]
  exact S_injective hzero

end Frac

section Fabs
variable {a : Word}

/-- FABS on `[-1, 1]` (R142). -/
theorem S_fabsVal_inside (lo : -65536 ≤ S a) (hi : S a ≤ 65536) :
    S (fabsVal a) = 65536 * |quantIdx (S a)| / 100 := by
  have hq := quantIdx_bounds (S a)
  rw [fabsVal, if_pos ⟨lo, hi⟩, quantIdx_add_one, romRead_abs (by omega) (by omega), add_sub_cancel_right,
    Int.abs_eq_natAbs]
  exact S_narrow_of_fits (by omega) (by omega)

/-- FABS outside `[-1, 1]` (R142). -/
theorem fabsVal_outside (h : 65536 < |S a|) : fabsVal a = narrow |S a| := by
  rw [Int.abs_eq_natAbs] at *
  rw [fabsVal, if_neg (by omega)]

end Fabs

/-- Settles O22, by the three ranges of the operand. -/
theorem fracTableOrExact : Obligations.FracTableOrExact := by
  refine fun a b c s => ⟨decode_plain .FRAC a b c rfl, _, _, exec_frac s a, answersInit_respondInit s _,
    fun lo hi => ?_, S_fracVal_above, S_fracVal_below⟩
  obtain ⟨lower, upper⟩ := quantIdx_bounds (S a)
  exact ⟨quantIdx (S a), lower, upper, S_fracVal_inside lo hi⟩

/-- Settles O23; outside the table only the magnitude of `-2^31` does not fit a word. -/
theorem fabsTableOrExact : Obligations.FabsTableOrExact := by
  refine fun a b c s => ⟨decode_plain .FABS a b c rfl, _, _, exec_fabs s a, answersInit_respondInit s _,
    fun lo hi => ?_, fun outside fits => ?_, fun hmin => ?_⟩
  · obtain ⟨lower, upper⟩ := quantIdx_bounds (S a)
    exact ⟨quantIdx (S a), lower, upper, S_fabsVal_inside lo hi⟩
  · have hrange := S_range a
    rw [fabsVal_outside outside, Int.abs_eq_natAbs]
    exact S_narrow_of_fits (by omega) (by omega)
  · rw [fabsVal_outside (by rw [hmin]; decide), hmin]
    rfl

/-- Settles O24: the grid point is within half a step, 327.68 raw units, and its word within one unit of it. -/
theorem quantizerErrorBound : Obligations.QuantizerErrorBound := by
  intro a
  have hq := quantIdx_bounds (S a)
  refine ⟨fun lo hi => ⟨_, yields_of_respondInit fun s => exec_frac s a, ?_⟩, fun lo hi => ?_,
    fun lo hi => ⟨_, yields_of_respondInit fun s => exec_fabs s a, ?_⟩⟩
  · rw [S_fracVal_before_last lo hi, abs_le]
    omega
  · have h := yields_of_respondInit fun s => exec_frac s a
    rwa [fracVal_last lo hi] at h
  · rw [S_fabsVal_inside lo hi, abs_le, Int.abs_eq_natAbs, Int.abs_eq_natAbs]
    omega

/-- A word within one raw unit of `k/100` is quantized to `k` (R143 a). -/
theorem quantIdx_of_near {v k : Int} (below : 65536 * k - 100 < 100 * v) (above : 100 * v < 65536 * k + 100) :
    quantIdx v = k := by
  have hq := quantIdx_bounds v
  omega

/-- Rounding toward zero moves a hundredth by less than one unit (R9). -/
theorem tdiv_hundred_near (n : Int) : n - 100 < 100 * Int.tdiv n 100 ∧ 100 * Int.tdiv n 100 < n + 100 := by
  have hdiv := Int.mul_tdiv_add_tmod n 100
  have hrem : (Int.tmod n 100).natAbs < 100 := by
    rw [Int.natAbs_tmod]
    exact Nat.mod_lt _ (by decide)
  omega

/-- Settles O25: the word of a grid point is quantized to that point. -/
theorem gridPointsAreExact : Obligations.GridPointsAreExact := by
  refine fun k => ⟨fun lo hi x hx => ?_, fun lo hi x hx => ?_⟩
  · have hk : quantIdx (S x) = k := quantIdx_of_near (by omega) (by omega)
    have hfix : S (fracVal x) = S x := by rw [S_fracVal_before_last (by omega) (by omega), hk, hx]
    have h := yields_of_respondInit fun s => exec_frac s x
    rwa [S_injective hfix] at h
  · have hmag : |S x| = 65536 * |k| / 100 := by
      have hdiv : (Int.tdiv (65536 * k) 100).natAbs = (65536 * k).natAbs / 100 := Int.natAbs_tdiv _ _
      rw [hx, Int.abs_eq_natAbs, Int.abs_eq_natAbs, hdiv]
      omega
    obtain ⟨below, above⟩ := tdiv_hundred_near (65536 * k)
    rw [← hx] at below above
    have hk : quantIdx (S x) = k := quantIdx_of_near below above
    refine ⟨_, yields_of_respondInit fun s => exec_fabs s x, ?_⟩
    rw [S_fabsVal_inside (by omega) (by omega), hk, hmag]

/-! ### SIN (R144) -/

set_option maxRecDepth 20000 in
/-- No entry of `SIN_ROM` is beyond 1.0 (R45). -/
theorem sinRom_range : ∀ x ∈ sinRom, -65536 ≤ x ∧ x ≤ 65536 := by
  decide

/-- SIN answers the entry of the clamped index (R144). -/
theorem getElem?_sinVal (a : Word) : sinRom[clampidx (S a * 255 / 65536) 256]? = some (S (sinVal a)) := by
  have hread := getElem?_clampidx .SIN (S a * 255 / 65536)
  have hrange := sinRom_range _ (List.mem_of_getElem? hread)
  rw [sinVal, sra_16, S_narrow_of_fits (by omega) (by omega)]
  exact hread

/-- Settles O26, by where the index stands to the table. -/
theorem sinClampsItsIndex : Obligations.SinClampsItsIndex := by
  intro a b c s
  have hread := getElem?_sinVal a
  refine ⟨decode_plain .SIN a b c rfl, _, _, exec_sin s a, answersInit_respondInit s _,
    fun neg => ?_, fun high => ?_, fun k hk lower upper => ?_⟩
  · have hidx : clampidx (S a * 255 / 65536) 256 = 0 := by rw [clampidx_eq_nearest]; omega
    rw [hidx] at hread
    exact (Option.some.inj hread).symm
  · have hidx : clampidx (S a * 255 / 65536) 256 = 255 := by rw [clampidx_eq_nearest]; omega
    rw [hidx] at hread
    exact (Option.some.inj hread).symm
  · have hidx : clampidx (S a * 255 / 65536) 256 = k := by rw [clampidx_eq_nearest]; omega
    rwa [hidx] at hread

/-! ### DIV7 and DIV183 (R145, R146) -/

/-- A quotient rounded toward zero of a number that is not negative is its floor (R9). -/
theorem tdiv_of_nonneg {v : Int} (h : 0 ≤ v) (d : Int) : tdiv (v * 65536) d = 65536 * v / d := by
  rw [tdiv, Int.tdiv_eq_ediv_of_nonneg (by omega), mul_comm]

/-- DIV7 is one function inside and outside its table (R145). -/
theorem div7Val_eq (a : Word) : div7Val a = narrow (tdiv (S a * 65536) 7) := by
  by_cases inside : 0 ≤ S a ∧ S a ≤ 7
  · rw [div7Val, if_pos inside, romRead_div7 inside.1 inside.2, tdiv_of_nonneg inside.1]
  · exact if_neg inside

/-- DIV183 is one function inside and outside its table (R146). -/
theorem div183Val_eq (a : Word) : div183Val a = narrow (tdiv (S a * 65536) 183) := by
  by_cases inside : 0 ≤ S a ∧ S a ≤ 255
  · rw [div183Val, if_pos inside, romRead_div183 inside.1 inside.2, tdiv_of_nonneg inside.1]
  · exact if_neg inside

/-- Settles O27, by the one function each of the two is. -/
theorem divisionsBySevenAnd183 : Obligations.DivisionsBySevenAnd183 := by
  refine fun a b c s => ⟨decode_plain .DIV7 a b c rfl,
    ⟨_, _, exec_div7 s a, answersInit_respondInit s _, ?_⟩,
    decode_plain .DIV183 a b c rfl, _, _, exec_div183 s a, answersInit_respondInit s _, ?_⟩
  · rw [div7Val_eq]
    exact S_narrow _
  · rw [div183Val_eq]
    exact S_narrow _

/-! ### FREQ (R147) -/

/-- The exact frequency of a key in raw units (R44). -/
noncomputable def noteRaw (k : ℝ) : ℝ := 440 * (2 : ℝ) ^ ((k - 33) / 12) * 65536

/-- Twelve semitones make an octave: the twelfth power of a frequency is an integer up to a power of two. -/
theorem noteRaw_pow (k : Nat) : noteRaw k ^ 12 * 2 ^ 33 = (440 * 65536) ^ 12 * 2 ^ k := by
  have hroot : ((2 : ℝ) ^ (((k : ℝ) - 33) / 12)) ^ 12 * 2 ^ 33 = 2 ^ k := by
    rw [← Real.rpow_natCast (_ ^ _), ← Real.rpow_mul two_pos.le, ← Real.rpow_natCast 2 33, ← Real.rpow_add two_pos,
      ← Real.rpow_natCast]
    norm_num
  rw [noteRaw, ← hroot]
  ring

set_option maxRecDepth 20000 in
/-- The twelfth power of each entry of `FREQ_ROM` and of the next integer enclose that of its frequency (R44). -/
theorem freqRom_pow_bounds : ∀ k < 64, 0 ≤ freqRom.getD k 0 ∧ freqRom.getD k 0 < 2 ^ 31 ∧
    freqRom.getD k 0 ^ 12 * 2 ^ 33 ≤ (440 * 65536) ^ 12 * 2 ^ k ∧
    (440 * 65536) ^ 12 * 2 ^ k < (freqRom.getD k 0 + 1) ^ 12 * 2 ^ 33 := by
  decide

/-- Each entry of `FREQ_ROM` is its frequency truncated (R147). -/
theorem freqRom_truncates {k : Nat} (hk : k < 64) :
    (freqRom.getD k 0 : ℝ) ≤ noteRaw k ∧ noteRaw k < (freqRom.getD k 0 : ℝ) + 1 := by
  obtain ⟨hnonneg, -, lower, upper⟩ := freqRom_pow_bounds k hk
  generalize freqRom.getD k 0 = y at *
  have hnote : 0 ≤ noteRaw k := by unfold noteRaw; positivity
  have hscale : (0 : ℝ) < 2 ^ 33 := by positivity
  constructor
  · have lower' : (y : ℝ) ^ 12 * 2 ^ 33 ≤ noteRaw k ^ 12 * 2 ^ 33 := by
      rw [noteRaw_pow]
      exact_mod_cast lower
    exact le_of_pow_le_pow_left₀ (by decide) hnote (le_of_mul_le_mul_right lower' hscale)
  · have upper' : noteRaw k ^ 12 * 2 ^ 33 < ((y : ℝ) + 1) ^ 12 * 2 ^ 33 := by
      rw [noteRaw_pow]
      exact_mod_cast upper
    have hsucc : (0 : ℝ) ≤ y + 1 := by exact_mod_cast hnonneg.trans (by omega)
    exact lt_of_pow_lt_pow_left₀ 12 hsucc (lt_of_mul_lt_mul_right upper' hscale.le)

/-- FREQ of a key in range is its entry (R147). -/
theorem S_freqVal_inside {a : Word} {k : Nat} (ha : S a = k) (hk : k < 64) : S (freqVal a) = freqRom.getD k 0 := by
  obtain ⟨lo, hi, -, -⟩ := freqRom_pow_bounds k hk
  have hread : romRead .FREQ (k : Int) = freqRom.getD k 0 := by
    rw [romRead, Bank.size, clampidx_of_inside (by omega) (by omega), Int.toNat_natCast, Bank.entries]
  rw [freqVal, ha, if_pos ⟨by omega, by omega⟩, hread]
  exact S_narrow_of_fits (by omega) (by omega)

/-- FREQ of any other key (R147). -/
theorem freqVal_outside {a : Word} (h : S a < 0 ∨ 63 < S a) : freqVal a = 0 := if_neg (by omega)

/-- Settles O28, by comparing twelfth powers, which are integers. -/
theorem freqIsTheTruncatedFrequency : Obligations.FreqIsTheTruncatedFrequency := by
  refine fun a b c s => ⟨decode_plain .FREQ a b c rfl, _, _, exec_freq s a, answersInit_respondInit s _,
    fun lo hi => ?_, freqVal_outside⟩
  obtain ⟨k, hk⟩ := Int.eq_ofNat_of_zero_le lo
  have hlt : k < 64 := by omega
  rw [S_freqVal_inside hk hlt, hk, Int.cast_natCast]
  exact freqRom_truncates hlt

/-! ### FLOOR (R148) -/

/-- XTOI is the arithmetic shift of the word (R107). -/
theorem xtoiVal_eq_sshiftRight (a : Word) : xtoiVal a = a.sshiftRight 16 := by
  rw [xtoiVal, sra_16, narrow, BitVec.sshiftRight, Int.shiftRight_eq_div_pow]
  rfl

/-- ITOX is the left shift of the word (R106). -/
theorem itoxVal_eq_shiftLeft (a : Word) : itoxVal a = a <<< 16 := by
  rw [itoxVal, narrow, BitVec.ofInt_mul, BitVec.shiftLeft_eq_mul_twoPow]
  exact congrArg (· * _) (narrow_S a)

/-- The mask of FLOOR holds the integer bits (R148). -/
theorem getElem_integerMask : ∀ {i : Nat} (hi : i < 32), (0xFFFF0000 : Word)[i] = decide (16 ≤ i) := by
  decide

/-- Clearing the fraction bits is XTOI and then ITOX (R148). -/
theorem floorVal_eq_itoxVal_xtoiVal (a : Word) : floorVal a = itoxVal (xtoiVal a) := by
  rw [itoxVal_eq_shiftLeft, xtoiVal_eq_sshiftRight, floorVal]
  ext i hi
  rw [BitVec.getElem_and, getElem_integerMask hi]
  by_cases h : i < 16
  · simp [h]
  · simp [h, hi, not_lt.mp h, BitVec.getElem_sshiftRight, show 16 + (i - 16) = i by omega]

/-- FLOOR rounds down to a multiple of 1.0 (R148). -/
theorem S_floorVal (a : Word) : S (floorVal a) = S a / 65536 * 65536 := by
  have hrange := S_range a
  rw [floorVal_eq_itoxVal_xtoiVal, itoxVal, S_xtoiVal, sra_16]
  exact S_narrow_of_fits (by omega) (by omega)

/-- Settles O29, by the floor of XTOI. -/
theorem floorIsTheGreatestIntegerBelow : Obligations.FloorIsTheGreatestIntegerBelow := by
  intro a b c s
  have hfloor := S_floorVal a
  refine ⟨decode_plain .FLOOR a b c rfl, _, floorVal a, xtoiVal a, exec_floor s a, answersInit_respondInit s _,
    by omega, by omega, by omega, yields_of_respond fun s => exec_xtoi s a, ?_⟩
  rw [floorVal_eq_itoxVal_xtoiVal]
  exact yields_of_respond fun s => exec_itox s (xtoiVal a)

/-! ### MULI, DIVI, MIN, MAX and CLAMP (R149 to R153) -/

/-- Answering with an UNSPECIFIED word and setting `INIT_DONE` changes nothing else of the unit (R150, U2). -/
theorem answersAnyWord_markInit_respondFree (s : State) (site : Config.FreeSite) (a b : Word) :
    answersAnyWord s (s.markInit.respondFree site a b) true :=
  answersAnyWord_respondFree s.markInit site a b

/-- Settles O30, by the magnitude and the sign of the quotient. -/
theorem muliAndDiviUseAnIntegerOperand : Obligations.MuliAndDiviUseAnIntegerOperand := by
  refine fun a b c s => ⟨decode_plain .MULI a b c rfl,
    ⟨_, _, exec_muli s a b, answersInit_respondInit s _, S_narrow _⟩, decode_plain .DIVI a b c rfl, fun hb => ?_,
    fun hb => ⟨_, exec_divi_zero s a b hb, answersAnyWord_markInit_respondFree s .divi a b⟩⟩
  obtain ⟨lower, upper⟩ := abs_tdiv_bounds (S a) hb
  exact ⟨_, _, tdiv (S a) (S b), exec_divi_nonzero s a b hb, answersInit_respondInit s _, lower, upper,
    tdiv_mul_nonneg (S a) (S b), S_narrow _⟩

/-- MIN is the signed minimum (R151). -/
theorem S_minVal (a b : Word) : S (minVal a b) = min (S a) (S b) := by
  rw [minVal, apply_ite S, min_def]

/-- MAX is the signed maximum (R152). -/
theorem S_maxVal (a b : Word) : S (maxVal a b) = max (S a) (S b) := by
  rw [maxVal, apply_ite S, max_comm, max_def]

/-- CLAMP applies the lower bound first (R153). -/
theorem S_clampVal (x lo hi : Word) : S (clampVal x lo hi) = min (max (S x) (S lo)) (S hi) := by
  rw [clampVal, S_minVal, S_maxVal]

/-- Settles O31, by the order of the three signed readings. -/
theorem minMaxAndClampAreSigned : Obligations.MinMaxAndClampAreSigned := by
  refine fun a b c s => ⟨decode_plain .MIN a b c rfl,
    ⟨_, _, exec_min s a b, answersInit_respondInit s _, S_minVal a b⟩, decode_plain .MAX a b c rfl,
    ⟨_, _, exec_max s a b, answersInit_respondInit s _, S_maxVal a b⟩, decode_plain .CLAMP a b c rfl,
    _, _, exec_clamp s a b c, answersInit_respondInit s _, ?_⟩
  have hclamp := S_clampVal a b c
  refine ⟨fun empty => ?_, fun order below => ?_, fun order above => ?_, fun lo hi => ?_⟩
  all_goals exact S_injective (by omega)

end Sys2Proof.Machine

/-! SUPPORT. WaveformSynthesizer (R170 to R187): what each command of the unit yields, the branches of the waveform
formulas, the signed readings of the operations inside a formula, and the ranges that follow. -/

namespace Sys2Proof.Machine

/-! ### What each command yields (R181) -/

section Yields
variable (a b c : Word) (voice : Byte)

theorem yields_add : yields (.add a b) (addVal a b) := yields_of_respond fun s => exec_add s a b
theorem yields_sub : yields (.sub a b) (subVal a b) := yields_of_respond fun s => exec_sub s a b
theorem yields_mul : yields (.mul a b) (mulVal a b) := yields_of_respond fun s => exec_mul s a b
theorem yields_frac : yields (.frac a) (fracVal a) := yields_of_respondInit fun s => exec_frac s a
theorem yields_fabs : yields (.fabs a) (fabsVal a) := yields_of_respondInit fun s => exec_fabs s a
theorem yields_muli : yields (.muli a b) (muliVal a b) := yields_of_respondInit fun s => exec_muli s a b
theorem yields_clamp : yields (.clamp a b c) (clampVal a b c) :=
  yields_of_respondInit fun s => exec_clamp s a b c

variable {b} in
theorem yields_div (hb : S b ≠ 0) : yields (.div a b) (divVal a b) :=
  yields_of_respond fun s => exec_div_nonzero s a b hb

variable {b} in
theorem yields_divi (hb : S b ≠ 0) : yields (.divi a b) (diviVal a b) :=
  yields_of_respondInit fun s => exec_divi_nonzero s a b hb

theorem yields_genTriangle : yields (.genTriangle voice a) (triangleVal (fracVal a)) :=
  yields_of_respondInit fun s => exec_genTriangle s a voice
theorem yields_genTiltedSaw : yields (.genTiltedSaw voice a) (tiltedSawVal (fracVal a)) :=
  yields_of_respondInit fun s => exec_genTiltedSaw s a voice
theorem yields_genSaw : yields (.genSaw voice a) (sawVal (fracVal a)) :=
  yields_of_respondInit fun s => exec_genSaw s a voice
theorem yields_genSquare : yields (.genSquare voice a) (squareVal (fracVal a)) :=
  yields_of_respondInit fun s => exec_genSquare s a voice
theorem yields_genPulse : yields (.genPulse voice a) (pulseVal (fracVal a)) :=
  yields_of_respondInit fun s => exec_genPulse s a voice
theorem yields_genOrgan : yields (.genOrgan voice a) (organVal (fracVal a)) :=
  yields_of_respondInit fun s => exec_genOrgan s a voice
theorem yields_genPhaser : yields (.genPhaser voice a) (phaserVal a (fracVal a)) :=
  yields_of_respondInit fun s => exec_genPhaser s a voice

end Yields

/-- A command yields one word at most. -/
theorem yields_unique {i : Instr} {y z : Word} (hy : yields i y) (hz : yields i z) : y = z := by
  obtain ⟨t, ht, hresponse⟩ := hy State.reset
  obtain ⟨t', ht', hresponse'⟩ := hz State.reset
  cases ht.symm.trans ht'
  exact Option.some.inj (hresponse.symm.trans hresponse')

/-! ### The branches of the waveform formulas -/

section Branches
variable {t : Word}

/-- TILTED_SAW before the peak (R173). -/
theorem tiltedSawVal_rise (h : S t < 58982) :
    tiltedSawVal t = diviVal (subVal (divVal (muliVal t 2) K_A) ONE) 2 := by
  rw [tiltedSawVal, S_K_A, if_pos h]

/-- TILTED_SAW from the peak on; `1 - K_A` is 6554 (R173). -/
theorem tiltedSawVal_fall (h : 58982 ≤ S t) :
    tiltedSawVal t = diviVal (subVal (divVal (muliVal (subVal ONE t) 2) 0x0000199A) ONE) 2 := by
  rw [tiltedSawVal, S_K_A, if_neg (not_lt.mpr h)]
  rfl

/-- SAW in the first half of the cycle (R174). -/
theorem sawVal_firstHalf (h : S t < 32768) : sawVal t = mulVal K_SAW t := by
  rw [sawVal, S_K_HALF, if_pos h]

/-- SAW in the second half of the cycle (R174). -/
theorem sawVal_secondHalf (h : 32768 ≤ S t) : sawVal t = mulVal K_SAW (subVal t ONE) := by
  rw [sawVal, S_K_HALF, if_neg (not_lt.mpr h)]

/-- SQUARE, its threshold as a number (R175). -/
theorem squareVal_eq (t : Word) : squareVal t = if S t < 32768 then 0x00004000 else 0xFFFFC000 := by
  rw [squareVal, S_K_HALF]

/-- PULSE, its threshold as a number (R176). -/
theorem pulseVal_eq (t : Word) : pulseVal t = if S t < 21845 then 0x00004000 else 0xFFFFC000 := by
  rw [pulseVal, S_K_THIRD]

/-- ORGAN in the first half of the cycle (R177). -/
theorem organVal_firstHalf (h : S t < 32768) :
    organVal t = diviVal (subVal 0x00030000 (fabsVal (subVal (muliVal t 24) 0x00060000))) 9 := by
  rw [organVal, S_K_HALF, if_pos h]
  rfl

/-- ORGAN in the second half of the cycle (R177). -/
theorem organVal_secondHalf (h : 32768 ≤ S t) :
    organVal t = diviVal (subVal ONE (fabsVal (subVal (muliVal t 16) 0x000C0000))) 9 := by
  rw [organVal, S_K_HALF, if_neg (not_lt.mpr h)]
  rfl

end Branches

/-! ### The formulas of the stateless instruments -/

/-- Settles O32, step by step. -/
theorem triangleIsItsFormula : Obligations.TriangleIsItsFormula := fun voice a b c s =>
  ⟨decode_gen 0 voice a b c, _, _, _, _, _, _, _, yields_frac a, yields_muli _ 4, yields_sub _ _, yields_fabs _,
    yields_sub _ ONE, yields_mul K_HALF _, exec_genTriangle s a voice, answersInit_respondInit s _⟩

/-- Settles O33, by the side of the peak the phase is on. -/
theorem tiltedSawIsItsFormula : Obligations.TiltedSawIsItsFormula := by
  refine fun voice a b c s => ⟨decode_gen 1 voice a b c, fracVal a, ?_⟩
  by_cases rise : S (fracVal a) < 58982
  · refine ⟨muliVal (fracVal a) 2, 0, _, _, _, _, yields_frac a,
      fun _ => ⟨yields_muli _ 2, yields_div _ (by decide)⟩, fun fall => absurd rise (not_lt.mpr fall),
      yields_sub _ ONE, yields_divi _ (by decide), exec_genTiltedSaw s a voice, ?_⟩
    rw [← tiltedSawVal_rise rise]
    exact answersInit_respondInit s _
  · have fall := not_lt.mp rise
    refine ⟨muliVal (subVal ONE (fracVal a)) 2, _, _, _, _, _, yields_frac a, fun h => absurd h rise,
      fun _ => ⟨yields_sub ONE _, yields_muli _ 2, yields_div _ (by decide)⟩, yields_sub _ ONE,
      yields_divi _ (by decide), exec_genTiltedSaw s a voice, ?_⟩
    rw [← tiltedSawVal_fall fall]
    exact answersInit_respondInit s _

/-- Settles O34; only SAW has a step that depends on the half of the cycle. -/
theorem sawSquareAndPulseAreTheirFormulas : Obligations.SawSquareAndPulseAreTheirFormulas := by
  refine fun voice a b c s => ⟨decode_gen 2 voice a b c, decode_gen 3 voice a b c, decode_gen 4 voice a b c,
    fracVal a, yields_frac a, ?_, ⟨_, exec_genSquare s a voice, ?_⟩, _, exec_genPulse s a voice, ?_⟩
  · by_cases first : S (fracVal a) < 32768
    · refine ⟨fracVal a, _, _, fun _ => rfl, fun second => absurd first (not_lt.mpr second), yields_mul K_SAW _,
        exec_genSaw s a voice, ?_⟩
      rw [← sawVal_firstHalf first]
      exact answersInit_respondInit s _
    · refine ⟨subVal (fracVal a) ONE, _, _, fun h => absurd h first, fun _ => yields_sub _ ONE, yields_mul K_SAW _,
        exec_genSaw s a voice, ?_⟩
      rw [← sawVal_secondHalf (not_lt.mp first)]
      exact answersInit_respondInit s _
  · rw [← squareVal_eq]
    exact answersInit_respondInit s _
  · rw [← pulseVal_eq]
    exact answersInit_respondInit s _

/-- Settles O35, by the half of the cycle the phase is in. -/
theorem organIsItsFormula : Obligations.OrganIsItsFormula := by
  refine fun voice a b c s => ⟨decode_gen 5 voice a b c, fracVal a, ?_⟩
  by_cases first : S (fracVal a) < 32768
  · refine ⟨_, _, _, _, _, _, yields_frac a,
      fun _ => ⟨yields_muli _ 24, yields_sub _ 0x00060000, yields_fabs _, yields_sub 0x00030000 _⟩,
      fun second => absurd first (not_lt.mpr second), yields_divi _ (by decide), exec_genOrgan s a voice, ?_⟩
    rw [← organVal_firstHalf first]
    exact answersInit_respondInit s _
  · refine ⟨_, _, _, _, _, _, yields_frac a, fun h => absurd h first,
      fun _ => ⟨yields_muli _ 16, yields_sub _ 0x000C0000, yields_fabs _, yields_sub ONE _⟩,
      yields_divi _ (by decide), exec_genOrgan s a voice, ?_⟩
    rw [← organVal_secondHalf (not_lt.mp first)]
    exact answersInit_respondInit s _

/-- Settles O36, step by step. -/
theorem phaserIsItsFormula : Obligations.PhaserIsItsFormula := fun voice a b c s =>
  ⟨decode_gen 7 voice a b c, _, _, _, _, _, _, _, _, _, _, _, _, _, _, _, _, _, _, yields_frac a,
    yields_mul a K_INV128, yields_frac _, yields_muli _ 2, yields_sub _ ONE, yields_fabs _,
    yields_divi _ (by decide), yields_add _ _, yields_frac _, yields_muli _ 4, yields_sub _ _, yields_fabs _,
    yields_muli _ 8, yields_sub _ _, yields_fabs _, yields_sub _ _, yields_divi _ (by decide),
    exec_genPhaser s a voice, answersInit_respondInit s _⟩

/-- Every unknown instrument answers 0, whichever of the five rows it falls in (R179). -/
theorem exec_genOf_unknown {sel : Byte} (voice : Byte) (a b : Word) (s : State) (h : 8 ≤ sel.toNat) :
    exec (genOf sel voice a b) s = .next (s.respondInit 0) := by
  rw [genOf_unknown voice a b h]
  split_ifs <;> rfl

/-- Settles O37, by the five rows for unknown instruments. -/
theorem unknownInstrumentsAreSilent : Obligations.UnknownInstrumentsAreSilent :=
  ⟨fun sel voice a b c s h =>
      ⟨_, _, decode_gen sel voice a b c, exec_genOf_unknown voice a b s h, answersInit_respondInit s 0⟩,
    fun sel voice s =>
      ⟨⟨_, exec_genUnk8 s voice sel, answersInit_respondInit s 0⟩,
        ⟨_, exec_genUnk16 s voice sel, answersInit_respondInit s 0⟩,
        ⟨_, exec_genUnk32 s voice sel, answersInit_respondInit s 0⟩,
        ⟨_, exec_genUnk64 s voice sel, answersInit_respondInit s 0⟩,
        _, exec_genUnk128 s voice sel, answersInit_respondInit s 0⟩⟩

end Sys2Proof.Machine

/-! SUPPORT. GEN NOISE, VSTART and VSTOP (R184 to R187): what they write to a voice, the noise denominator, and the
response where it is specified. -/

namespace Sys2Proof.Machine

/-! ### What a command leaves behind that writes a voice -/

/-- Answering after a write to voice `v` changes nothing else (R186, R187). -/
theorem answersVoice_setVoice_respond (s : State) (v : Byte) (x : Voice) (y : Word) :
    answersVoice s ((s.setVoice v x).respond y) y v x s.initDone :=
  ⟨rfl, rfl, rfl, rfl, rfl⟩

/-- Answering after a write to voice `v` and setting `INIT_DONE` changes nothing else (R184). -/
theorem answersVoice_setVoice_respondInit (s : State) (v : Byte) (x : Voice) (y : Word) :
    answersVoice s ((s.setVoice v x).respondInit y) y v x true :=
  ⟨rfl, rfl, rfl, rfl, rfl⟩

namespace State

/-- A write to a missing voice has no effect (R76). -/
theorem setVoice_missing {s : State} {v : Byte} (h : s.voiceAt v = none) (x : Voice) : s.setVoice v x = s := by
  rw [setVoice, List.set_eq_of_length_le ((s.voiceAt_eq_none_iff v).mp h)]

/-- Only the later of two writes to one voice is left (R24). -/
theorem setVoice_setVoice (s : State) (v : Byte) (x y : Voice) :
    (s.setVoice v x).setVoice v y = s.setVoice v y := by
  simp only [setVoice, List.set_set]

end State

/-! ### The voice GEN NOISE works on -/

theorem noiseVoice_active {x : Voice} (h : x.active = true) : noiseVoice x = x := if_pos h

/-- An inactive voice is started first (R186). -/
theorem noiseVoice_inactive {x : Voice} (h : x.active = false) : noiseVoice x = Voice.started :=
  if_neg (Bool.eq_false_iff.mp h)

/-- A word that is not 0 does not read as 0 (R7). -/
theorem S_ne_zero {w : Word} (h : w ≠ 0) : S w ≠ 0 := fun hS => h (S_injective hS)

/-- Settles O42, step by step on the voice GEN NOISE works on. -/
theorem noiseRunsItsRecurrence : Obligations.NoiseRunsItsRecurrence := by
  rintro voice a b c s x0 x hvoice rfl hden
  exact ⟨decode_gen 6 voice a b c, _, noiseScale (noiseVoice x0) a, _, _, noiseSample (noiseVoice x0) a b,
    _, _, _, _, _, _, _,
    yields_sub a _, yields_div _ (by decide), yields_add ONE _, yields_mul _ b, yields_add _ _,
    yields_div _ (S_ne_zero hden), yields_add _ _, yields_mul _ K_43, yields_sub K_175 _, yields_mul _ _,
    yields_clamp _ _ _, yields_mul _ K_02, exec_genNoise s a b voice hvoice hden,
    answersVoice_setVoice_respondInit s voice _ _⟩

/-- Settles O43: the sample and the response are the two free words. -/
theorem noiseOpenCaseWritesTheRest : Obligations.NoiseOpenCaseWritesTheRest := by
  rintro voice a b s x0 x hvoice rfl hden
  exact ⟨_, _, _, exec_genNoise_open s a b voice hvoice hden, rfl, rfl, rfl, rfl, rfl⟩

/-- Settles O45: both commands write the voice and answer 0. -/
theorem startAndStopOfAVoice : Obligations.StartAndStopOfAVoice := by
  refine fun voice a b c s x hvoice => ⟨decode_vstart voice a b c, decode_vstop voice a b c,
    ⟨_, exec_vstart s voice, answersVoice_setVoice_respond s voice _ 0⟩, _, exec_vstop s voice, ?_⟩
  rw [State.stopVoice_existing hvoice]
  exact answersVoice_setVoice_respond s voice _ 0

/-- Settles O58, by the response and the voice being functions of what GEN NOISE finds. -/
theorem voicesWithTheSameStateAgree : Obligations.VoicesWithTheSameStateAgree :=
  fun _ _ _ _ _ _ _ _ => genNoise_agrees

/-! ### Starting a voice before GEN NOISE -/

section StartFirst
variable (s : State) {voice : Byte} (a b : Word)

/-- A voice write makes an earlier VSTART on the voice unseen, but for its response (R186). -/
theorem setVoice_after_vstart (voice : Byte) (x : Voice) :
    ((s.startVoice voice).respond 0).setVoice voice x = (s.setVoice voice x).respond 0 :=
  congrArg (State.respond · 0) (s.setVoice_setVoice voice Voice.started x)

/-- The same after `INIT_DONE` is set (R170). -/
theorem markInit_setVoice_after_vstart (voice : Byte) (x : Voice) :
    ((s.startVoice voice).respond 0).markInit.setVoice voice x = (s.markInit.setVoice voice x).respond 0 :=
  setVoice_after_vstart s.markInit voice x

/-- On a missing voice neither VSTART nor GEN NOISE writes (R76). -/
theorem genNoise_after_vstart_missing (h : s.voiceAt voice = none) :
    exec (.genNoise voice a b) s = exec (.genNoise voice a b) ((s.startVoice voice).respond 0) := by
  have hsame : s.startVoice voice = s := State.setVoice_missing h Voice.started
  rw [hsame, exec_genNoise_missing s a b voice h, exec_genNoise_missing (s.respond 0) a b voice h]
  rfl

/-- On an inactive voice GEN NOISE starts from the voice that VSTART leaves (R184, R186); in the case of U4 both runs
draw the same free words (log entry 2). -/
theorem genNoise_after_vstart_inactive {x : Voice} (h : s.voiceAt voice = some x) (inactive : x.active = false) :
    exec (.genNoise voice a b) s = exec (.genNoise voice a b) ((s.startVoice voice).respond 0) := by
  have hstarted : ((s.startVoice voice).respond 0).voiceAt voice = some Voice.started := by
    rw [State.voiceAt_respond, State.voiceAt_startVoice, h, Option.map_some]
  have hvoice : noiseVoice x = noiseVoice Voice.started := noiseVoice_inactive inactive
  by_cases hden : noiseDen (noiseVoice x) a = 0
  · rw [exec_genNoise_open s a b voice h hden, exec_genNoise_open _ a b voice hstarted (hvoice ▸ hden), hvoice,
      markInit_setVoice_after_vstart]
    rfl
  · rw [exec_genNoise s a b voice h hden, exec_genNoise _ a b voice hstarted (hvoice ▸ hden), hvoice,
      setVoice_after_vstart]
    rfl

end StartFirst

/-- Settles O46, for a missing and for an inactive voice. -/
theorem noiseStartsAnInactiveVoice : Obligations.NoiseStartsAnInactiveVoice := by
  intro voice a b s s₁ inactive hstart
  cases hstart
  cases hvoice : s.voiceAt voice with
  | none => exact genNoise_after_vstart_missing s a b hvoice
  | some x => exact genNoise_after_vstart_inactive s a b hvoice (inactive x hvoice)

/-! ### A repeated advance -/

section Repeated
variable (x : Voice)

/-- 0 multiplied by any word is 0 (R103). -/
theorem zero_mulVal (b : Word) : mulVal 0 b = 0 := by
  rw [mulVal, mul_comm]
  exact mulVal_zero b

/-- Dividing by `ONE` gives the operand back (R104). -/
theorem divVal_ONE (a : Word) : divVal a ONE = a := by
  rw [divVal, S_ONE, tdiv, Int.mul_tdiv_cancel _ (by decide), narrow_S]

theorem noiseScale_repeated : noiseScale x x.lastAdvance = 0 := by
  rw [noiseScale, subVal_eq, sub_self]
  rfl

theorem noiseDen_repeated : noiseDen x x.lastAdvance = ONE := by
  rw [noiseDen, noiseScale_repeated]
  rfl

theorem noiseSample_repeated (b : Word) : noiseSample x x.lastAdvance b = x.sample := by
  rw [noiseSample, noiseDen_repeated, noiseScale_repeated, zero_mulVal, divVal_ONE, addVal_eq, add_zero]

end Repeated

/-- GEN NOISE at the advance of the voice's previous sample: the draw `b` does not occur in what it does (R184). -/
theorem exec_genNoise_repeated {s : State} {voice : Byte} {x : Voice} (h : s.voiceAt voice = some x)
    (active : x.active = true) (b : Word) :
    exec (.genNoise voice x.lastAdvance b) s =
      .next ((s.setVoice voice (noiseAfter x x.lastAdvance x.sample)).respondInit
        (noiseOut x.sample x.sample 0)) := by
  have hden : noiseDen (noiseVoice x) x.lastAdvance ≠ 0 := by
    rw [noiseVoice_active active, noiseDen_repeated]
    decide
  rw [exec_genNoise s x.lastAdvance b voice h hden, noiseVoice_active active, noiseSample_repeated,
    noiseScale_repeated]

/-- Settles O50, by the one effect GEN NOISE has there for every draw. -/
theorem repeatedAdvanceKeepsTheSample : Obligations.RepeatedAdvanceKeepsTheSample := by
  intro voice b b' s x hvoice active
  have hexec := exec_genNoise_repeated (s := s) hvoice active
  refine ⟨by rw [hexec b, hexec b'], _, hexec b, ?_⟩
  have hread := s.voiceAt_setVoice voice (noiseAfter x x.lastAdvance x.sample)
  rwa [State.voiceAt_eq s, hvoice] at hread

end Sys2Proof.Machine

/-! SUPPORT. The signed readings of the operations inside a waveform formula where nothing wraps, the ranges of the
phase and of the responses (R171, R182), and the mirror of TRIANGLE (R172). -/

namespace Sys2Proof.Machine

/-! ### The operations of the unit on numbers that fit -/

section Readings
variable {a b : Word} {m n : Int}

theorem S_addVal (ha : S a = m) (hb : S b = n) (lo : -2147483648 ≤ m + n) (hi : m + n ≤ 2147483647) :
    S (addVal a b) = m + n := by
  subst ha hb
  exact S_narrow_of_fits lo hi

theorem S_subVal (ha : S a = m) (hb : S b = n) (lo : -2147483648 ≤ m - n) (hi : m - n ≤ 2147483647) :
    S (subVal a b) = m - n := by
  subst ha hb
  exact S_narrow_of_fits lo hi

theorem S_mulVal (ha : S a = m) (hb : S b = n) (lo : -2147483648 ≤ m * n / 65536)
    (hi : m * n / 65536 ≤ 2147483647) : S (mulVal a b) = m * n / 65536 := by
  subst ha hb
  rw [mulVal, sra_16]
  exact S_narrow_of_fits lo hi

theorem S_muliVal (ha : S a = m) (hb : S b = n) (lo : -2147483648 ≤ m * n) (hi : m * n ≤ 2147483647) :
    S (muliVal a b) = m * n := by
  subst ha hb
  exact S_narrow_of_fits lo hi

/-- DIV of a number that is not negative is a floor (R104). -/
theorem S_divVal (ha : S a = m) (hb : S b = n) (nonneg : 0 ≤ m) (lo : -2147483648 ≤ 65536 * m / n)
    (hi : 65536 * m / n ≤ 2147483647) : S (divVal a b) = 65536 * m / n := by
  subst ha hb
  rw [divVal, tdiv_of_nonneg nonneg]
  exact S_narrow_of_fits lo hi

/-- SUB of two numbers in ranges that leave room (R102). -/
theorem S_subVal_range {alo ahi blo bhi : Int} (ha : alo ≤ S a ∧ S a ≤ ahi) (hb : blo ≤ S b ∧ S b ≤ bhi)
    (lo : -2147483648 ≤ alo - bhi) (hi : ahi - blo ≤ 2147483647) :
    alo - bhi ≤ S (subVal a b) ∧ S (subVal a b) ≤ ahi - blo := by
  rw [S_subVal rfl rfl (by omega) (by omega)]
  omega

/-- DIVI by a positive number keeps the order (R150). -/
theorem S_diviVal_range {lo hi qlo qhi : Int} (hb : S b = n) (pos : 0 < n) (fits : -2147483647 ≤ lo)
    (hqlo : Int.tdiv lo n = qlo) (hqhi : Int.tdiv hi n = qhi) (ha : lo ≤ S a ∧ S a ≤ hi) :
    qlo ≤ S (diviVal a b) ∧ S (diviVal a b) ≤ qhi := by
  have hrange := S_range a
  have hmag : (tdiv (S a) n).natAbs ≤ (S a).natAbs := by
    rw [tdiv, Int.natAbs_tdiv]
    exact Nat.div_le_self ..
  have hquot : S (diviVal a b) = tdiv (S a) n := by
    rw [diviVal, hb]
    exact S_narrow_of_fits (by omega) (by omega)
  rw [hquot, tdiv, ← hqlo, ← hqhi]
  exact ⟨Int.tdiv_le_tdiv pos ha.1, Int.tdiv_le_tdiv pos ha.2⟩

/-- FABS keeps a bound of at least 1.0 on the magnitude (R142). -/
theorem S_fabsVal_range (bound : Int) (hbound : 65536 ≤ bound) (fits : bound ≤ 2147483647) (lo : -bound ≤ S a)
    (hi : S a ≤ bound) : 0 ≤ S (fabsVal a) ∧ S (fabsVal a) ≤ bound := by
  by_cases inside : -65536 ≤ S a ∧ S a ≤ 65536
  · have hq := quantIdx_bounds (S a)
    rw [S_fabsVal_inside inside.1 inside.2, Int.abs_eq_natAbs]
    omega
  · have outside : 65536 < |S a| := by
      rw [Int.abs_eq_natAbs]
      omega
    rw [fabsVal_outside outside, Int.abs_eq_natAbs, S_narrow_of_fits (by omega) (by omega)]
    omega

section Fold
variable {k w : Word} (K W : Int) (hk : S k = K) (hw : S w = W)
include hk hw

/-- The linear term `k·a - w` of the waveform formulas (R172, R177, R178). -/
theorem S_linear (lo : -2147483648 ≤ S a * K) (hi : S a * K ≤ 2147483647) (lo' : -2147483648 ≤ S a * K - W)
    (hi' : S a * K - W ≤ 2147483647) : S (subVal (muliVal a k) w) = S a * K - W :=
  S_subVal (S_muliVal rfl hk lo hi) hw lo' hi'

/-- The fold `|k·a - w|` of the waveform formulas keeps a bound of at least 1.0 on the magnitude (R172, R177,
R178). -/
theorem S_fold_range (bound : Int) (hW : 0 ≤ W) (hbound : 65536 ≤ bound) (fits : W + bound ≤ 2147483647)
    (lo : -bound ≤ S a * K - W) (hi : S a * K - W ≤ bound) :
    0 ≤ S (fabsVal (subVal (muliVal a k) w)) ∧ S (fabsVal (subVal (muliVal a k) w)) ≤ bound := by
  have hlinear : S (subVal (muliVal a k) w) = S a * K - W :=
    S_linear K W hk hw (by omega) (by omega) (by omega) (by omega)
  exact S_fabsVal_range bound hbound (by omega) (by omega) (by omega)

end Fold

end Readings

/-! ### The phase (R171) -/

/-- FRAC of a number that is not negative is below 1.0 (R141). -/
theorem S_fracVal_range_of_nonneg {a : Word} (h : 0 ≤ S a) : 0 ≤ S (fracVal a) ∧ S (fracVal a) ≤ 65535 := by
  by_cases inside : S a ≤ 65536
  · have hq := quantIdx_bounds (S a)
    rw [S_fracVal_inside h inside]
    split
    next => decide
    next => omega
  · rw [S_fracVal_above (not_le.mp inside)]
    omega

/-- FRAC of a negative number is above -1.0 and not positive (R141). -/
theorem S_fracVal_range_of_neg {a : Word} (h : S a < 0) : -65535 ≤ S (fracVal a) ∧ S (fracVal a) ≤ 0 := by
  rw [S_fracVal_below h]
  omega

/-- Settles O38, by the sign of the advance. -/
theorem phaseStaysWithinOneCycle : Obligations.PhaseStaysWithinOneCycle := by
  refine fun a => ⟨fracVal a, yields_frac a, ?_⟩
  rcases lt_or_ge (S a) 0 with neg | nonneg
  · have hphase := S_fracVal_range_of_neg neg
    omega
  · have hphase := S_fracVal_range_of_nonneg nonneg
    omega

/-! ### The response ranges (R182), each for a phase `0 ≤ t < 1` -/

section Ranges
variable {t : Word} (lo : 0 ≤ S t) (hi : S t ≤ 65535)
include lo hi

/-- The term `|4t - 2|` of TRIANGLE and PHASER. -/
theorem S_fourfold_range : 0 ≤ S (fabsVal (subVal (muliVal t 4) (ones 2))) ∧
    S (fabsVal (subVal (muliVal t 4) (ones 2))) ≤ 131072 :=
  S_fold_range 4 131072 rfl rfl 131072 (by decide) (by decide) (by decide) (by omega) (by omega)

/-- The term `|8t - 4|` of PHASER. -/
theorem S_eightfold_range : 0 ≤ S (fabsVal (subVal (muliVal t 8) (ones 4))) ∧
    S (fabsVal (subVal (muliVal t 8) (ones 4))) ≤ 262144 :=
  S_fold_range 8 262144 rfl rfl 262144 (by decide) (by decide) (by decide) (by omega) (by omega)

/-- TRIANGLE as arithmetic on its fold: nothing wraps (R172). -/
theorem S_triangleVal :
    S (triangleVal t) = 32768 * (S (fabsVal (subVal (muliVal t 4) (ones 2))) - 65536) / 65536 := by
  have hm := S_fourfold_range lo hi
  exact S_mulVal S_K_HALF (S_subVal rfl S_ONE (by omega) (by omega)) (by omega) (by omega)

theorem triangleVal_range : -32768 ≤ S (triangleVal t) ∧ S (triangleVal t) ≤ 32768 := by
  have hm := S_fourfold_range lo hi
  rw [S_triangleVal lo hi]
  omega

theorem tiltedSawVal_range : -32768 ≤ S (tiltedSawVal t) ∧ S (tiltedSawVal t) ≤ 32768 := by
  rcases lt_or_ge (S t) 58982 with rise | fall
  · have hd : S (divVal (muliVal t 2) K_A) = 65536 * (S t * 2) / 58982 :=
      S_divVal (S_muliVal rfl rfl (by omega) (by omega)) S_K_A (by omega) (by omega) (by omega)
    have hret : S (subVal _ ONE) = _ - 65536 := S_subVal hd S_ONE (by omega) (by omega)
    rw [tiltedSawVal_rise rise]
    exact S_diviVal_range (lo := -65536) (hi := 65536) rfl (by decide) (by decide) rfl rfl (by omega)
  · have hr : S (subVal ONE t) = 65536 - S t := S_subVal S_ONE rfl (by omega) (by omega)
    have hd : S (divVal (muliVal (subVal ONE t) 2) 0x0000199A) = 65536 * ((65536 - S t) * 2) / 6554 :=
      S_divVal (S_muliVal hr rfl (by omega) (by omega)) rfl (by omega) (by omega) (by omega)
    have hret : S (subVal _ ONE) = _ - 65536 := S_subVal hd S_ONE (by omega) (by omega)
    rw [tiltedSawVal_fall fall]
    exact S_diviVal_range (lo := -65536) (hi := 65536) rfl (by decide) (by decide) rfl rfl (by omega)

theorem sawVal_range : -21398 ≤ S (sawVal t) ∧ S (sawVal t) ≤ 21396 := by
  rcases lt_or_ge (S t) 32768 with first | second
  · rw [sawVal_firstHalf first, S_mulVal S_K_SAW rfl (by omega) (by omega)]
    omega
  · have hx : S (subVal t ONE) = S t - 65536 := S_subVal rfl S_ONE (by omega) (by omega)
    rw [sawVal_secondHalf second, S_mulVal S_K_SAW hx (by omega) (by omega)]
    omega

theorem organVal_range : -21845 ≤ S (organVal t) ∧ S (organVal t) ≤ 21845 := by
  rcases lt_or_ge (S t) 32768 with first | second
  · have hm := S_fold_range (a := t) (k := 24) (w := 0x00060000) 24 393216 rfl rfl 393216 (by decide) (by decide)
      (by decide) (by omega) (by omega)
    have hthree : 196608 ≤ S 0x00030000 ∧ S 0x00030000 ≤ 196608 := by decide
    rw [organVal_firstHalf first]
    exact S_diviVal_range rfl (by decide) (by decide) rfl rfl (S_subVal_range hthree hm (by decide) (by decide))
  · have hm := S_fold_range (a := t) (k := 16) (w := 0x000C0000) 16 786432 rfl rfl 262144 (by decide) (by decide)
      (by decide) (by omega) (by omega)
    have hone : 65536 ≤ S ONE ∧ S ONE ≤ 65536 := by decide
    have hy := S_diviVal_range (b := 9) (qlo := -21845) (qhi := 7281) rfl (by decide) (by decide) rfl rfl
      (S_subVal_range hone hm (by decide) (by decide))
    rw [organVal_secondHalf second]
    omega

end Ranges

/-- SQUARE and PULSE answer one of two levels (R175, R176). -/
theorem S_twoLevels (high : Prop) [Decidable high] :
    S (if high then 0x00004000 else 0xFFFFC000) = -16384 ∨ S (if high then 0x00004000 else 0xFFFFC000) = 16384 := by
  split
  · exact .inr rfl
  · exact .inl rfl

/-- Settles O39, by the range of each formula over the phases of a non-negative advance. -/
theorem waveformsStayInTheirRange : Obligations.WaveformsStayInTheirRange := by
  intro voice a nonneg
  obtain ⟨lo, hi⟩ := S_fracVal_range_of_nonneg nonneg
  refine ⟨⟨_, yields_genTriangle a voice, triangleVal_range lo hi⟩,
    ⟨_, yields_genTiltedSaw a voice, tiltedSawVal_range lo hi⟩, ⟨_, yields_genSaw a voice, sawVal_range lo hi⟩,
    ⟨_, yields_genSquare a voice, ?_⟩, ⟨_, yields_genPulse a voice, ?_⟩,
    _, yields_genOrgan a voice, organVal_range lo hi⟩
  · rw [squareVal_eq]
    exact S_twoLevels _
  · rw [pulseVal_eq]
    exact S_twoLevels _

/-! ### PHASER (R178, R182) -/

/-- The slow term of PHASER lies in `0 .. 1` for a non-negative advance (R178). -/
theorem phaserSlow_range {a : Word} (nonneg : 0 ≤ S a) : 0 ≤ S (phaserSlow a) ∧ S (phaserSlow a) ≤ 65536 := by
  have hrange := S_range a
  have hg : S (mulVal a K_INV128) = S a * 512 / 65536 := S_mulVal rfl S_K_INV128 (by omega) (by omega)
  have hf := S_fracVal_range_of_nonneg (a := mulVal a K_INV128) (by omega)
  exact S_fold_range 2 65536 rfl S_ONE 65536 (by decide) (by decide) (by decide) (by omega) (by omega)

/-- PHASER is a sixth of a number in `0 .. 2` less a number in `0 .. 4`: its second phase is, like the first, that of
a non-negative advance (R182). -/
theorem phaserVal_range {a t : Word} (nonneg : 0 ≤ S a) (lo : 0 ≤ S t) (hi : S t ≤ 65535) :
    -43690 ≤ S (phaserVal a t) ∧ S (phaserVal a t) ≤ 21845 := by
  have hh : 0 ≤ S (diviVal (phaserSlow a) 2) ∧ S (diviVal (phaserSlow a) 2) ≤ 32768 :=
    S_diviVal_range rfl (by decide) (by decide) rfl rfl (phaserSlow_range nonneg)
  have hv : S (addVal t (diviVal (phaserSlow a) 2)) = S t + S (diviVal (phaserSlow a) 2) :=
    S_addVal rfl rfl (by omega) (by omega)
  obtain ⟨phaseLo, phaseHi⟩ := S_fracVal_range_of_nonneg (a := addVal t (diviVal (phaserSlow a) 2)) (by omega)
  have hret := S_subVal_range (S_fourfold_range phaseLo phaseHi) (S_eightfold_range lo hi) (by decide) (by decide)
  exact S_diviVal_range rfl (by decide) (by decide) rfl rfl hret

/-- Settles O40, by the range of the formula over the phases of a non-negative advance. -/
theorem phaserStaysInItsRange : Obligations.PhaserStaysInItsRange := by
  intro voice a nonneg
  obtain ⟨lo, hi⟩ := S_fracVal_range_of_nonneg nonneg
  exact ⟨_, yields_genPhaser a voice, phaserVal_range nonneg lo hi⟩

/-! ### TRIANGLE about the half cycle (R172) -/

/-- The quantizer is odd but for its ties, which it rounds upward: the ties of a multiple of 4 lie halfway between
`25j + 12` and `25j + 13` hundredths (R143). -/
theorem quantIdx_neg (k : Int) : quantIdx (-(4 * k)) = -quantIdx (4 * k) ∨
    ∃ j, quantIdx (4 * k) = 25 * j + 13 ∧ quantIdx (-(4 * k)) = -(25 * j + 12) := by
  have hq := quantIdx_bounds (4 * k)
  have hq' := quantIdx_bounds (-(4 * k))
  by_cases tie : 4096 * quantIdx (4 * k) = 25 * k + 2048
  · exact .inr ⟨quantIdx (4 * k) / 25, by omega, by omega⟩
  · exact .inl (by omega)

/-- The two magnitudes FABS gives on both sides of a tie: 0.13 and 0.12 above a multiple of a quarter (R143). -/
def acrossTie (m m' : Int) : Prop := ∃ i, m = 16384 * i + 8519 ∧ m' = 16384 * i + 7864

/-- FABS of a number and of its negative agree but for a tie of the quantizer (R142, R143). -/
theorem S_fabsVal_neg {v w : Word} {k : Int} (hv : S v = 4 * k) (hw : S w = -(4 * k)) :
    S (fabsVal v) = S (fabsVal w) ∨ acrossTie (S (fabsVal v)) (S (fabsVal w)) ∨
      acrossTie (S (fabsVal w)) (S (fabsVal v)) := by
  by_cases inside : -65536 ≤ S v ∧ S v ≤ 65536
  · rw [S_fabsVal_inside inside.1 inside.2, S_fabsVal_inside (by omega) (by omega), hv, hw]
    obtain hneg | ⟨j, hq, hq'⟩ := quantIdx_neg k
    · left
      rw [hneg, abs_neg]
    · right
      rw [hq, hq', abs_neg, Int.abs_eq_natAbs, Int.abs_eq_natAbs]
      rcases le_or_gt 0 j with nonneg | neg
      · exact .inl ⟨j, by omega, by omega⟩
      · exact .inr ⟨-j - 1, by omega, by omega⟩
  · have hsame : |S w| = |S v| := by rw [hw, hv, abs_neg]
    have outside : 65536 < |S v| := by
      rw [Int.abs_eq_natAbs]
      omega
    left
    rw [fabsVal_outside outside, fabsVal_outside (hsame ▸ outside), hsame]

/-- TRIANGLE at mirrored phases; across a tie the two responses differ by 327 (R172). -/
theorem triangleVal_mirror {t u : Word} (lo : 0 < S t) (hi : S t < 65536) (mirror : S u = 65536 - S t) :
    |S (triangleVal t) - S (triangleVal u)| ≤ 327 := by
  have hlinear : S (subVal (muliVal t 4) (ones 2)) = S t * 4 - 131072 :=
    S_linear 4 131072 rfl rfl (by omega) (by omega) (by omega) (by omega)
  have hlinear' : S (subVal (muliVal u 4) (ones 2)) = S u * 4 - 131072 :=
    S_linear 4 131072 rfl rfl (by omega) (by omega) (by omega) (by omega)
  have hfold := S_fabsVal_neg (k := S t - 32768) (hlinear.trans (by omega)) (hlinear'.trans (by omega))
  rw [S_triangleVal (by omega) (by omega), S_triangleVal (by omega) (by omega), abs_le]
  obtain same | ⟨i, hm, hm'⟩ | ⟨i, hm, hm'⟩ := hfold
  · omega
  · omega
  · omega

/-- Settles O41: in the second cycle the phases are exact, and those of the two advances are mirrored. -/
theorem triangleIsSymmetricWithinTolerance : Obligations.TriangleIsSymmetricWithinTolerance := by
  intro voice a m lo hi mirror
  have ha : S (fracVal a) = S a - 65536 := by rw [S_fracVal_above lo]; omega
  have hm : S (fracVal m) = 131072 - S a := by rw [S_fracVal_above (by omega)]; omega
  exact ⟨_, _, yields_genTriangle a voice, yields_genTriangle m voice,
    triangleVal_mirror (by omega) (by omega) (by omega)⟩

end Sys2Proof.Machine

/-! SUPPORT. The response and the denominator of GEN NOISE as integers (R182, R184). -/

namespace Sys2Proof.Machine

/-- The clamp to `-1 .. 1` and the factor 0.2 bound every response (R182, R184). -/
theorem noiseOut_range (lastSample sample scale : Word) :
    -13107 ≤ S (noiseOut lastSample sample scale) ∧ S (noiseOut lastSample sample scale) ≤ 13107 := by
  have hclamp := S_clampVal (noiseRaw lastSample sample scale) 0xFFFF0000 0x00010000
  rw [show S 0xFFFF0000 = -65536 from rfl, show S 0x00010000 = 65536 from rfl] at hclamp
  rw [noiseOut, S_mulVal hclamp S_K_02 (by omega) (by omega)]
  omega

/-- Settles O47, for a missing voice and for the clamped response. -/
theorem noiseStaysInItsRange : Obligations.NoiseStaysInItsRange := by
  intro voice a b s specified
  cases hvoice : s.voiceAt voice with
  | none => exact ⟨_, 0, exec_genNoise_missing s a b voice hvoice, rfl, by decide, by decide⟩
  | some x =>
    have hden : noiseDen (noiseVoice x) a ≠ 0 := by
      simpa [unspecifiedOn_genNoise a b hvoice] using specified
    exact ⟨_, _, exec_genNoise s a b voice hvoice hden, rfl, noiseOut_range _ _ _⟩

/-- Rounding toward zero is the floor of the magnitudes with the sign put back (R9). -/
theorem tdiv_eq_ite (n d : Int) : tdiv n d = if 0 ≤ n then n / d else -(-n / d) := by
  split
  next nonneg => exact Int.tdiv_eq_ediv_of_nonneg nonneg
  next neg => rw [← Int.tdiv_eq_ediv_of_nonneg (by omega), Int.neg_tdiv, neg_neg, tdiv]

/-- The denominator `1 + scale` with both narrowings written out (R184). -/
theorem S_noiseDen (x : Voice) (a : Word) :
    S (noiseDen x a) = wrap32 (65536 + wrap32 (tdiv (S (subVal a x.lastAdvance) * 65536) 7397)) := by
  rw [noiseDen, addVal, S_narrow, S_ONE, noiseScale, divVal, S_narrow, S_K_TSCALE]

/-- Both narrowings are congruences modulo `2^32`: the sum is 0 where `scale` is `-65536` modulo `2^32` (R8). -/
theorem wrap32_one_add_eq_zero_iff (q : Int) :
    wrap32 (65536 + wrap32 q) = 0 ↔ ∃ j : Int, q = 65536 * (65536 * j - 1) := by
  unfold wrap32
  constructor
  · intro h
    exact ⟨(q + 65536) / 4294967296, by omega⟩
  · rintro ⟨j, rfl⟩
    omega

/-- A quotient by the time constant is a whole number only of a multiple of the time constant (R184). -/
theorem tdiv_tscale_eq_iff (v k : Int) : tdiv (v * 65536) 7397 = 65536 * k ↔ v = 7397 * k := by
  rw [tdiv_eq_ite]
  split
  next => omega
  next => omega

/-- Settles O48: the quotient is `-65536` modulo `2^32`, and a word holds no difference with a `j` beyond 4. -/
theorem noiseDenominatorZeroExactly : Obligations.NoiseDenominatorZeroExactly := by
  intro x a d hd
  obtain rfl := yields_unique hd (yields_sub a x.lastAdvance)
  have hrange := S_range (subVal a x.lastAdvance)
  have hzero : noiseDen x a = 0 ↔ S (noiseDen x a) = 0 := ⟨fun h => congrArg S h, fun h => S_injective h⟩
  rw [hzero, S_noiseDen, wrap32_one_add_eq_zero_iff]
  simp only [tdiv_tscale_eq_iff]
  constructor
  · rintro ⟨j, hj⟩
    exact ⟨j, by omega, by omega, hj⟩
  · rintro ⟨j, -, -, hj⟩
    exact ⟨j, hj⟩

end Sys2Proof.Machine

/-! The statement of the family on faults and refusals (R200): whatever is presented, the step answers a next state. -/

namespace Sys2Proof.Machine

/-- Settles O51, by what is presented: nothing, a reset input, a reserved word, or a command, which completes. -/
theorem everyStepAnswersNext : Obligations.EveryStepAnswersNext := by
  intro s
  cases hin : s.inbox with
  | nil => exact ⟨_, step_of_nil hin⟩
  | cons input rest =>
    cases input with
    | reset cut => exact ⟨_, step_of_reset hin⟩
    | command p =>
      cases hd : decode p with
      | error r => exact ⟨_, step_of_reserved hin hd⟩
      | ok i =>
        rw [step_of_command hin hd]
        exact exec_completes i _

end Sys2Proof.Machine

/-! The statements of the family on reset and hazards: what a reset input leaves behind (R220, R221), and the phase
steps on which NOISE stays defined (R184, R227). -/

namespace Sys2Proof.Machine

/-- `STATUS` is 0 while `INIT_DONE` is clear and no voice is active (R26). -/
theorem statusWord_eq_zero {s : State} (hinit : s.initDone = false) (hvoices : ∀ x ∈ s.voices, x.active = false) :
    statusWord s = 0 := by
  rw [statusWord, hinit, activeBits_of_inactive hvoices]
  exact BitVec.or_zero

/-- Every voice a reset input leaves is at its reset value, for both forms of reset (R221). -/
theorem eq_reset_of_mem_hostReset {s : State} {cut : Option Packet} {x : Voice} (hx : x ∈ (s.hostReset cut).voices) :
    x = Voice.reset := by
  rw [State.hostReset_voices] at hx
  exact List.eq_of_mem_replicate hx

theorem statusWord_hostReset (s : State) (cut : Option Packet) : statusWord (s.hostReset cut) = 0 :=
  statusWord_eq_zero (s.hostReset_initDone cut) fun x hx => by
    rw [eq_reset_of_mem_hostReset hx]
    rfl

/-- Settles O8, from the one step a reset input takes; only the response depends on whether a command was cut off. -/
theorem resetInputRestoresResetValues : Obligations.ResetInputRestoresResetValues := by
  intro s cut rest
  refine ⟨_, step_of_reset rfl, State.hostReset_initDone _ cut, ?length, fun x hx => eq_reset_of_mem_hostReset hx,
    statusWord_hostReset _ cut, State.hostReset_inbox _ cut, ?response⟩
  case length => rw [State.hostReset_voices, List.length_replicate]
  case response =>
    rintro rfl
    rfl

/-- Below `7397·32767` raw units of a forward step neither narrowing of `1 + scale` wraps (R184, log entry 7). -/
theorem S_noiseDen_of_forward {x : Voice} {a : Word} (nonneg : 0 ≤ S (subVal a x.lastAdvance))
    (small : S (subVal a x.lastAdvance) < 242377499) :
    S (noiseDen x a) = 65536 + S (subVal a x.lastAdvance) * 65536 / 7397 := by
  have hscale : wrap32 (S (subVal a x.lastAdvance) * 65536 / 7397) = S (subVal a x.lastAdvance) * 65536 / 7397 :=
    wrap32_of_fits (by omega) (by omega)
  rw [S_noiseDen, tdiv, Int.tdiv_eq_ediv_of_nonneg (by omega), hscale, wrap32_of_fits (by omega) (by omega)]

/-- Settles O49: without wrapping, `1 + scale` is 1.0 plus a quotient that is not negative; and the forward step of
`7397·65535` raw units from a fresh voice, the `j = 1` of O48, makes it 0. -/
theorem smallForwardStepsAreDefined : Obligations.SmallForwardStepsAreDefined := by
  constructor
  · intro x a d hd nonneg small
    obtain rfl := yields_unique hd (yields_sub a x.lastAdvance)
    rw [S_noiseDen_of_forward nonneg small]
    omega
  · have hzero : noiseDen Voice.started 484762395 = 0 :=
      (noiseDenominatorZeroExactly _ _ _ (yields_sub _ _)).mpr ⟨1, by decide, by decide, by decide⟩
    exact ⟨Voice.started, 484762395, rfl, by decide, by decide, hzero⟩

end Sys2Proof.Machine
